-- ==== Sys2Proof/Word.lean ====
section
/-! DEFINITION. The word types of CiA402-FSM: the unit of its two records, the widths of its fields and
of its ports. Signed quantities are two's complement (spec 00_scope.md R11): `as_signed_N(v)` of the
spec is `BitVec.toInt`, `sext_N` is `BitVec.signExtend`, `zext_N` is `BitVec.setWidth`. -/

namespace Sys2Proof

/-- The addressable unit of both records (20_memory.md R61). -/
abbrev Byte := BitVec 8

/-- A 16-bit field: status word, control word, torques, error code, working counter. -/
abbrev Half := BitVec 16

/-- A 32-bit field: positions and velocities, read as signed (`toInt`). -/
abbrev Word := BitVec 32

/-- A whole 16-byte record as the ports `ex_out` and `ex_in` carry it: byte 0 in bits 7:0
(10_state.md R38). -/
abbrev Record := BitVec 128

end Sys2Proof
end

