-- ==== Sys2Proof/Syntax.lean ====
section
/-! DEFINITION. The syntax of CiA402-FSM: the 13 rows of spec/opcode_table.json (`Instr`), the values that
select one of them (`Select`, the Input Snapshot), the two records as typed fields, the input ports of
one step, and the lines of the stimulus script (30_encoding.md R105, R106). -/

namespace Sys2Proof

/-- The operations of the block: one constructor per row of spec/opcode_table.json. The seven of format
`S` are selected by the status word inside a CYCLE (30_encoding.md R98), the six of format `Q` by
`PHASE`, `RUN_FLAG` and the input ports (R99). -/
inductive Instr where
  /-- FRESET, fault reset (41_decision_engine.md R152). -/
  | freset
  /-- SHUTDN, shutdown command (R153). -/
  | shutdn
  /-- SWON, switch on (R154). -/
  | swon
  /-- ENOP, enable operation (R155). -/
  | enop
  /-- RUNA, hold enabled and command the setpoint, literal 0x1237 (R156). -/
  | runa
  /-- RUNB, the same action for the literal 0x1637 (R157). -/
  | runb
  /-- KEEP, unrecognized status (R158). It is the one row with more than one encoding, so it carries the
  status word that selected it; its meaning does not read it. -/
  | keep (statusWord : Half)
  /-- START, enter the cyclic loop (40_cyclic_exchange.md R122). -/
  | start
  /-- SFAIL, startup failure (R123). -/
  | sfail
  /-- CYCLE, one iteration of the loop (R125). -/
  | cycle
  /-- STOP, the loop-continuation check fails (R128). -/
  | stop
  /-- DRAINC, one drain cycle (R130). -/
  | drainc
  /-- STOPREQ, the host's stop request (R127). -/
  | stopreq
  deriving DecidableEq, Repr

/-- The mnemonic of the row (30_encoding.md R98, R99), as a trace prints it (R105). -/
def Instr.mnemonic : Instr → String
  | .freset => "FRESET"
  | .shutdn => "SHUTDN"
  | .swon => "SWON"
  | .enop => "ENOP"
  | .runa => "RUNA"
  | .runb => "RUNB"
  | .keep _ => "KEEP"
  | .start => "START"
  | .sfail => "SFAIL"
  | .cycle => "CYCLE"
  | .stop => "STOP"
  | .drainc => "DRAINC"
  | .stopreq => "STOPREQ"

/-- The register `PHASE`, the block's analogue of a program counter (10_state.md R21). An enumeration: the
codes 5 to 7 do not exist (93_implementation_defined.md U11). -/
inductive Phase where
  | idle
  | run
  | drain
  | halted
  | failed
  deriving DecidableEq, Repr

/-- The decoder output `DSTATE` (30_encoding.md R94). -/
inductive DState where
  | unrecognized
  | fault
  | switchOnDisabled
  | readyToSwitchOn
  | switchedOn
  | operationEnabled
  deriving DecidableEq, Repr

/-- What selects a sequencer operation or the host's event (30_encoding.md R99, 40_cyclic_exchange.md R120):
the two registers and the three one-bit input ports. -/
structure Select where
  phase : Phase
  runFlag : Bool
  start : Bool
  operational : Bool
  stopReq : Bool
  deriving DecidableEq, Repr

/-- Why no instruction is decoded. The first three are the rows 'none' of the step table
(40_cyclic_exchange.md R120); the last says that a byte string is no 16-byte record (30_encoding.md R90). -/
inductive Reject where
  /-- Phase IDLE with `start = 0`: the block waits. -/
  | waiting
  /-- Phase HALTED: final. -/
  | halted
  /-- Phase FAILED: final. -/
  | failed
  /-- Not 16 bytes, so not an Input Snapshot. -/
  | badLength (bytes : Nat)
  deriving DecidableEq, Repr

/-- What an instruction is decoded from: the status word (format `S`) or the selecting values
(format `Q`). -/
inductive Code where
  | status (word : Half)
  | select (x : Select)
  deriving DecidableEq, Repr

/-- The Input Snapshot as typed fields, in the order of its offsets (30_encoding.md R91). Signed fields are
two's-complement patterns. -/
structure Snapshot where
  statusWord : Half
  actualPosition : Word
  actualVelocity : Word
  actualTorque : Half
  errorCode : Half
  modeDisplay : Byte
  pad : Byte
  deriving DecidableEq, Repr

/-- The Output Command as typed fields, in the order of its offsets (30_encoding.md R92). -/
structure Command where
  controlWord : Half
  targetPosition : Word
  targetVelocity : Word
  targetTorque : Half
  maxTorque : Half
  operatingMode : Byte
  pad : Byte
  deriving DecidableEq, Repr

/-- The result of one exchange, `env.resp` (00_scope.md R16, 20_memory.md R68). -/
inductive Resp where
  /-- A response arrived: its 16 bytes (byte 0 in bits 7:0) and the health value. -/
  | fresh (bytes : Record) (wkc : Half)
  /-- The exchange timed out; the health value is still reported. -/
  | stale (wkc : Half)
  deriving DecidableEq, Repr

/-- The input ports of 10_state.md R38 as one step of the model sees them. -/
structure Inputs where
  start : Bool
  operational : Bool
  stopReq : Bool
  exRespFresh : Bool
  exIn : Record
  exWkc : Half
  deriving DecidableEq, Repr, Inhabited

/-- The fields of an `EX` line (30_encoding.md R105). An omitted field is 0; an omitted `md` is `MODE_CSV`
and an omitted `wkc` is `WKC_EXPECTED`, so these two may be absent. -/
structure ExFields where
  sw : Half := 0
  pos : Word := 0
  vel : Word := 0
  tq : Half := 0
  err : Half := 0
  md : Option Byte := none
  pad : Byte := 0
  wkc : Option Half := none
  deriving DecidableEq, Repr

/-- One `name=value` of a `CONFIG` line (30_encoding.md R105), and the pseudo-item `RPM=r` (R106). The
parameters are those of 00_scope.md R8 that the host may set. -/
inductive ConfigItem where
  | targetVel (v : Word)
  | modeCsv (v : Byte)
  | maxTorque (v : Half)
  | resolution (v : Nat)
  | reportPeriod (v : Nat)
  | moveThreshold (v : Nat)
  | wkcExpected (v : Half)
  | strictStatus (v : Bool)
  | rpm (r : Rat)
  deriving DecidableEq, Repr

/-- An `EX` line of the stimulus script (30_encoding.md R105): one exchange with a FRESH response, or one
that timed out. -/
inductive ExLine where
  | fresh (fields : ExFields)
  | stale (wkc : Option Half)
  deriving DecidableEq, Repr

/-- A line of the stimulus script (30_encoding.md R105), after the expansion of the pseudo-lines
(R106). -/
inductive Line where
  | config (items : List ConfigItem)
  | start (op : Bool)
  | ex (line : ExLine)
  | stopreq
  deriving DecidableEq, Repr

end Sys2Proof
end

