-- ==== Sys2Proof/Config.lean ====
section
/-! DEFINITION. What is fixed for one instance of CiA402-FSM: the parameters of 00_scope.md R8 and the free
values, which no proof can look into (the environment's behaviour and the OPEN parameters). -/

namespace Sys2Proof

/-- The two byte orders a record field could be stored in (00_scope.md R8, `BYTE_ORDER`). -/
inductive ByteOrder where
  | little
  | big
  deriving DecidableEq, Repr

/-- The parameters that the host sets before START, the block's control registers (10_state.md R35,
60_exceptions.md R213). `STRICT_STATUS` is among them because a host can ask for it (R164). -/
structure Params where
  /-- `TARGET_VEL`, signed 32-bit, pulses per second; OPEN. -/
  targetVel : Word
  /-- `MODE_CSV`, signed 8-bit; OPEN. -/
  modeCsv : Byte
  /-- `MAX_TORQUE`, unsigned 16-bit; OPEN. -/
  maxTorque : Half
  /-- `RESOLUTION`, positive, pulses per revolution. -/
  resolution : Nat
  /-- `REPORT_PERIOD`, positive, cycles. -/
  reportPeriod : Nat
  /-- `MOVE_THRESHOLD`, positive, pulses. -/
  moveThreshold : Nat
  /-- `WKC_EXPECTED`, unsigned 16-bit; OPEN. -/
  wkcExpected : Half
  /-- `STRICT_STATUS`; only `false` has a defined meaning (41_decision_engine.md R164). -/
  strictStatus : Bool
  deriving DecidableEq, Repr

/-- `BYTE_ORDER = little` (20_memory.md R63, 92_eei_decisions.md D1). It cannot be switched while the
block runs: re-instantiating the model means changing this constant. -/
def Config.byteOrder : ByteOrder := .little

/-- `DRAIN_CYCLES = 50`, "a fixed constant, not configurable" (00_scope.md R8, 40_cyclic_exchange.md R130). -/
def Config.drainCycles : Nat := 50

/-- The default of `MODE_CSV` that 00_scope.md R8 offers (PRESUMED: the spec marks it general knowledge,
93_implementation_defined.md GK3); nothing proved may rest on it. -/
def Config.modeCsvDefault : Byte := 9

/-- `TARGET_VEL` as the host of a run from reset has set it: OPEN, so a free value. -/
opaque Config.targetVel : Word

/-- `MODE_CSV` as the host of a run from reset has set it: OPEN, so a free value. -/
opaque Config.modeCsv : Byte

/-- `MAX_TORQUE` as the host of a run from reset has set it: OPEN, so a free value. -/
opaque Config.maxTorque : Half

/-- `WKC_EXPECTED` as the host of a run from reset has set it: OPEN, so a free value. -/
opaque Config.wkcExpected : Half

/-- What the environment presents on the input ports at the n-th free draw (00_scope.md R16: the inputs
of a step are free, a model quantifies over every value of them). -/
opaque Config.env : Nat → Inputs

/-- A parameter record with the reference values of 00_scope.md R8, the offered default mode, and the
values given for the parameters without a default. -/
def Params.reference (targetVel : Word) (maxTorque wkcExpected : Half) : Params where
  targetVel := targetVel
  modeCsv := Config.modeCsvDefault
  maxTorque := maxTorque
  resolution := 131072
  reportPeriod := 500
  moveThreshold := 1000
  wkcExpected := wkcExpected
  strictStatus := false

/-- The parameters of a run from reset: the reference values where 00_scope.md R8 gives one, free values
for the OPEN ones. -/
def Config.params : Params :=
  { Params.reference Config.targetVel Config.maxTorque Config.wkcExpected with
    modeCsv := Config.modeCsv }

end Sys2Proof
end

