-- ==== Sys2Proof/WellFormed.lean ====
section
/-! DEFINITION. Well-formedness of the syntax: an instruction as its row of the opcode table admits it, a
parameter record as 00_scope.md R8 types it, and a stimulus script (30_encoding.md R105). -/

namespace Sys2Proof

/-- The six literals of the decoder table (30_encoding.md R94). -/
def listedStatusWords : List Half := [0x1208, 0x1250, 0x1231, 0x1233, 0x1237, 0x1637]

/-- A KEEP stands for a status word that no other row matches (30_encoding.md R98); the other rows have
one encoding each. -/
def WellFormed : Instr → Bool
  | .keep sw => !listedStatusWords.contains sw
  | .freset | .shutdn | .swon | .enop | .runa | .runb => true
  | .start | .sfail | .cycle | .stop | .drainc | .stopreq => true

/-- The positive parameters are positive and the strictness option has its one defined value
(00_scope.md R8). -/
def Params.wf (p : Params) : Bool :=
  decide (0 < p.resolution) && decide (0 < p.reportPeriod) && decide (0 < p.moveThreshold)
    && !p.strictStatus

/-- No `CONFIG` line after the first `START` (30_encoding.md R105: "parameters, before START only");
`started` says whether a START has been seen. -/
def scriptWfFrom : Bool → List Line → Bool
  | _, [] => true
  | started, .config _ :: rest => !started && scriptWfFrom started rest
  | _, .start _ :: rest => scriptWfFrom true rest
  | started, .ex _ :: rest => scriptWfFrom started rest
  | started, .stopreq :: rest => scriptWfFrom started rest

/-- A script whose parameters are set before START only. -/
def scriptWf (script : List Line) : Bool := scriptWfFrom false script

end Sys2Proof
end

