-- ==== Sys2Proof/Decode.lean ====
section
/-! DEFINITION. The encodings of 30_encoding.md: bytes of a record, field assembly in `BYTE_ORDER`, the two
record layouts, the status-word decoder, the sequencer's selection, the control-word encoder, and the
encoder of an instruction. -/

namespace Sys2Proof

/-! ### Bytes and fields of a record -/

/-- Byte `i` of a value, byte 0 being its bits 7:0. -/
def byteOf {w : Nat} (v : BitVec w) (i : Nat) : Byte := v.extractLsb' (8 * i) 8

/-- The value whose byte of significance `i` is `f i`: `{f (n-1), ..., f 0}` (30_encoding.md R93). -/
def assemble : (n : Nat) → (Nat → Byte) → BitVec (8 * n)
  | 0, _ => 0#0
  | n + 1, f => (assemble n (fun i => f (i + 1)) ++ f 0 : BitVec (8 * n + 8))

/-- At which place of an `n`-byte field the byte of significance `i` lies (20_memory.md R63). -/
def ByteOrder.place : ByteOrder → Nat → Nat → Nat
  | .little, _, i => i
  | .big, n, i => n - 1 - i

/-- The `n`-byte field at offset `off` of a record (30_encoding.md R93). -/
def fieldOf (o : ByteOrder) (r : Record) (off n : Nat) : BitVec (8 * n) :=
  assemble n (fun i => byteOf r (off + o.place n i))

/-- The bytes of a field in the order in which a record holds them. -/
def fieldBytes (o : ByteOrder) (n : Nat) (v : BitVec (8 * n)) : List Byte :=
  (List.range n).map (fun k => byteOf v (o.place n k))

/-- The 16 bytes of a record, byte 0 first. -/
def recordBytes (r : Record) : List Byte := (List.range 16).map (byteOf r)

/-- The record with these bytes, byte 0 first; absent bytes are 0. -/
def packRecord (bytes : List Byte) : Record := assemble 16 (fun i => bytes.getD i 0)

/-- The bytes of an Input Snapshot (30_encoding.md R91). -/
def Snapshot.bytes (x : Snapshot) : List Byte :=
  fieldBytes Config.byteOrder 2 x.statusWord ++ fieldBytes Config.byteOrder 4 x.actualPosition
    ++ fieldBytes Config.byteOrder 4 x.actualVelocity ++ fieldBytes Config.byteOrder 2 x.actualTorque
    ++ fieldBytes Config.byteOrder 2 x.errorCode ++ fieldBytes Config.byteOrder 1 x.modeDisplay
    ++ fieldBytes Config.byteOrder 1 x.pad

/-- The Input Snapshot encoded as a record. -/
def encodeSnapshot (x : Snapshot) : Record := packRecord x.bytes

/-- The fields of an Input Snapshot record (30_encoding.md R91, R93). -/
def decodeSnapshot (r : Record) : Snapshot where
  statusWord := fieldOf Config.byteOrder r 0 2
  actualPosition := fieldOf Config.byteOrder r 2 4
  actualVelocity := fieldOf Config.byteOrder r 6 4
  actualTorque := fieldOf Config.byteOrder r 10 2
  errorCode := fieldOf Config.byteOrder r 12 2
  modeDisplay := fieldOf Config.byteOrder r 14 1
  pad := fieldOf Config.byteOrder r 15 1

/-- The bytes of an Output Command (30_encoding.md R92). -/
def Command.bytes (x : Command) : List Byte :=
  fieldBytes Config.byteOrder 2 x.controlWord ++ fieldBytes Config.byteOrder 4 x.targetPosition
    ++ fieldBytes Config.byteOrder 4 x.targetVelocity ++ fieldBytes Config.byteOrder 2 x.targetTorque
    ++ fieldBytes Config.byteOrder 2 x.maxTorque ++ fieldBytes Config.byteOrder 1 x.operatingMode
    ++ fieldBytes Config.byteOrder 1 x.pad

/-- The Output Command encoded as a record. -/
def encodeCommand (x : Command) : Record := packRecord x.bytes

/-- The fields of an Output Command record (30_encoding.md R92). -/
def decodeCommand (r : Record) : Command where
  controlWord := fieldOf Config.byteOrder r 0 2
  targetPosition := fieldOf Config.byteOrder r 2 4
  targetVelocity := fieldOf Config.byteOrder r 6 4
  targetTorque := fieldOf Config.byteOrder r 10 2
  maxTorque := fieldOf Config.byteOrder r 12 2
  operatingMode := fieldOf Config.byteOrder r 14 1
  pad := fieldOf Config.byteOrder r 15 1

/-! ### The decoder of format `S` -/

/-- A row of format `S` of the opcode table (30_encoding.md R107). -/
structure SRow where
  pattern : Half
  mask : Half
  build : Half → Instr

/-- The rows of format `S` in the table's order (30_encoding.md R98). -/
def sRows : List SRow :=
  [ ⟨0x1208, 0xFFFF, fun _ => .freset⟩,
    ⟨0x1250, 0xFFFF, fun _ => .shutdn⟩,
    ⟨0x1231, 0xFFFF, fun _ => .swon⟩,
    ⟨0x1233, 0xFFFF, fun _ => .enop⟩,
    ⟨0x1237, 0xFFFF, fun _ => .runa⟩,
    ⟨0x1637, 0xFFFF, fun _ => .runb⟩,
    ⟨0x0000, 0x0000, .keep⟩ ]

/-- "Rows are tried in the order listed and the first that matches wins" (30_encoding.md R107). -/
def firstRow (sw : Half) : List SRow → Option Instr
  | [] => none
  | r :: rest => if sw &&& r.mask = r.pattern then some (r.build sw) else firstRow sw rest

/-- The action a status word selects; the last row matches what is left (30_encoding.md R94, R100), so
there is always one. -/
def decodeStatus (sw : Half) : Instr := (firstRow sw sRows).getD (.keep sw)

/-- The action that an Input Snapshot selects: its opcode is its status word. -/
def decodeRecord (r : Record) : Instr := decodeStatus (decodeSnapshot r).statusWord

/-- Decoding of a byte string: 16 bytes are an Input Snapshot, anything else is rejected
(30_encoding.md R90, R103). -/
def decodeBytes (bytes : List Byte) : Except Reject Instr :=
  if bytes.length = 16 then .ok (decodeRecord (packRecord bytes))
  else .error (.badLength bytes.length)

/-! ### The decoder of format `Q` -/

/-- The sequencer's choice in a phase (40_cyclic_exchange.md R120). -/
def selectSequencer (x : Select) : Except Reject Instr :=
  match x.phase with
  | .idle => if x.start then (if x.operational then .ok .start else .ok .sfail) else .error .waiting
  | .run => if x.runFlag then .ok .cycle else .ok .stop
  | .drain => .ok .drainc
  | .halted => .error .halted
  | .failed => .error .failed

/-- What the next step executes: the host's event when it requests one ("taken between steps of the
sequencer", 40_cyclic_exchange.md R127), else the sequencer's operation. -/
def selectOp (x : Select) : Except Reject Instr :=
  if x.stopReq then .ok .stopreq else selectSequencer x

/-- Decoding of either format. -/
def decode : Code → Except Reject Instr
  | .status sw => .ok (decodeStatus sw)
  | .select x => selectOp x

/-! ### The encoder of an instruction -/

/-- The code of an instruction: the status word of its row (30_encoding.md R98), or selecting values of
its row (R99) with every value the row leaves open at 0. -/
def encode : Instr → Code
  | .freset => .status 0x1208
  | .shutdn => .status 0x1250
  | .swon => .status 0x1231
  | .enop => .status 0x1233
  | .runa => .status 0x1237
  | .runb => .status 0x1637
  | .keep sw => .status sw
  | .start => .select ⟨.idle, false, true, true, false⟩
  | .sfail => .select ⟨.idle, false, true, false, false⟩
  | .cycle => .select ⟨.run, true, false, false, false⟩
  | .stop => .select ⟨.run, false, false, false, false⟩
  | .drainc => .select ⟨.drain, false, false, false, false⟩
  | .stopreq => .select ⟨.idle, false, false, false, true⟩

/-- The Input Snapshot that makes a CYCLE select an instruction of format `S`: its status word with any
other fields. An instruction of format `Q` has none (30_encoding.md R99). -/
def encodeInstr (i : Instr) (rest : Snapshot) : Option Record :=
  match encode i with
  | .status sw => some (encodeSnapshot { rest with statusWord := sw })
  | .select _ => none

/-! ### Codes of the enumerations and the control-word encoder -/

/-- The code of `PHASE` on the port `phase` (10_state.md R21). -/
def Phase.code : Phase → BitVec 3
  | .idle => 0
  | .run => 1
  | .drain => 2
  | .halted => 3
  | .failed => 4

/-- The code of `DSTATE` on the port `dstate` (30_encoding.md R94). -/
def DState.code : DState → BitVec 3
  | .unrecognized => 0
  | .fault => 1
  | .switchOnDisabled => 2
  | .readyToSwitchOn => 3
  | .switchedOn => 4
  | .operationEnabled => 5

/-- The status-word decoder by exact equality on all 16 bits (30_encoding.md R94). -/
def dstateOf (sw : Half) : DState :=
  if sw = 0x1208 then .fault
  else if sw = 0x1250 then .switchOnDisabled
  else if sw = 0x1231 then .readyToSwitchOn
  else if sw = 0x1233 then .switchedOn
  else if sw = 0x1237 then .operationEnabled
  else if sw = 0x1637 then .operationEnabled
  else .unrecognized

/-- The control-word encoder as a function of `DSTATE` (30_encoding.md R97): the pair (control word, target
velocity), or no write. -/
def commandOf (d : DState) (tvSet : Word) : Option (Half × Word) :=
  match d with
  | .fault => some (0x0080, 0)
  | .switchOnDisabled => some (0x0006, 0)
  | .readyToSwitchOn => some (0x0007, 0)
  | .switchedOn => some (0x000F, 0)
  | .operationEnabled => some (0x000F, tvSet)
  | .unrecognized => none

/-! ### The input ports -/

/-- `env.resp` as the ports give it (10_state.md R38): `ex_in` is ignored on a timeout. -/
def Inputs.resp (x : Inputs) : Resp :=
  if x.exRespFresh then .fresh x.exIn x.exWkc else .stale x.exWkc

/-- The health value of an exchange's result (20_memory.md R68). -/
def Resp.wkc : Resp → Half
  | .fresh _ w => w
  | .stale w => w

/-! ### The host's question -/

/-- The instruction the decoder reads from a table row's bits: the low `nbits` of `w` are the first bytes
of an Input Snapshot, every other bit is 0. -/
def decodeTableWord (nbits w : Nat) : Option Instr :=
  match decodeBytes (recordBytes (BitVec.ofNat 128 (w % 2 ^ nbits))) with
  | .ok i => some i
  | .error _ => none

end Sys2Proof
end

