-- ==== Sys2Proof/Machine/State.lean ====
section
/-! DEFINITION. The state of CiA402-FSM (10_state.md R20, R41), the reasons for which an outcome can be no
next state, and the state after power-on reset. -/

namespace Sys2Proof.Machine

/-- One record in canonical form: offsets strictly rising, none at or above 16, and no byte equal to
0x00, which is what an unlisted offset reads as (the reset content of 10_state.md R41). -/
abbrev Memory := List Host.Cell

/-- The two address spaces (20_memory.md R60). The record `IN` is called `inp`. -/
inductive Space where
  | out
  | inp
  deriving DecidableEq, Repr

/-- The machine. The first ten fields are the whole state of the block (10_state.md R20); the next two are
the event strobes of the reset table (R41); `exOut` is the output port `ex_out`; `params` holds the
configuration registers (R35); the last two are the model's own: what the environment is going to
present on the input ports. -/
@[ext]
structure State where
  /-- `PHASE`, 3 bits (R21). -/
  phase : Phase
  /-- `DRAIN_COUNT`, 6 bits (R22). -/
  drainCount : BitVec 6
  /-- `CYCLE_COUNT`, 64 bits (R23). -/
  cycleCount : BitVec 64
  /-- `TV_SET`, signed 32 bits (R24). -/
  tvSet : Word
  /-- `START_POS`, signed 32 bits (R25). -/
  startPos : Word
  /-- `WKC`, 16 bits (R26). -/
  wkc : Half
  /-- `MOTOR_ENABLED` (R27). -/
  motorEnabled : Bool
  /-- `RUN_FLAG` (R28). -/
  runFlag : Bool
  /-- The record `OUT`, 16 bytes (R31). -/
  outRec : Memory
  /-- The record `IN`, 16 bytes (R32). -/
  inRec : Memory
  /-- The strobe `ENABLE_EVT` (R36, 42_reporting.md R185). -/
  enableEvt : Bool
  /-- The strobe `REPORT` (R36, 42_reporting.md R186). -/
  report : Bool
  /-- What the last step drove on the port `ex_out` (R38): the record it sent, or nothing. -/
  exOut : Option Record
  /-- The configuration registers (R35). -/
  params : Params
  /-- The model's own: inputs of the coming steps that are already fixed, the next first. -/
  pending : List Inputs
  /-- The model's own: how many inputs have been drawn freely so far. -/
  draws : Nat
  deriving DecidableEq, Repr

/-- The reasons for a fault. The block itself raises none (60_exceptions.md R205). -/
inductive Fault where
  /-- An observer's `MemRead` or `MemWrite` of `n` bytes at offset `off` that does not lie wholly in 0 to
  15 (20_memory.md R61: outside the space, and no operation of the block makes one). Safe: it stops
  where the spec gives no byte. -/
  | outOfRange (space : Space) (off n : Nat)
  deriving DecidableEq, Repr

/-- The reasons for a refusal. -/
inductive Refusal where
  /-- An arm of `exec` that has no meaning yet. No arm answers it in this model. Safe. -/
  | notModelled (mnemonic : String)
  /-- `STRICT_STATUS = true`: the spec gives a strict mode no behaviour and asks a model to refuse it
  (41_decision_engine.md R164, 93_implementation_defined.md U4). Raised by the host's write of it
  (`configureItem`, `State.configure`), by every step in a state that has it nevertheless, and by KEEP,
  whose rule presumes `false`. Safe. -/
  | strictStatus
  /-- The host's write of a parameter while `PHASE` is not IDLE (10_state.md R35); raised by
  `State.configure` only, never by a step. Safe. -/
  | configLocked
  /-- The host's configured RPM whose pulse rate is no signed 32-bit value (42_reporting.md R188,
  93_implementation_defined.md U6); raised by `configureRpm` only, never by a step. Safe. -/
  | targetVelOutOfRange
  deriving DecidableEq, Repr

/-- The three outcomes, for this machine. -/
abbrev Result := Host.Outcome State Fault Refusal

/-- The state right after power-on reset (10_state.md R41, 70_reset_and_hazards.md R231), with the
parameters the host holds stable (R232) and nothing fixed of what the environment will present. -/
def State.reset : State where
  phase := .idle
  drainCount := 0
  cycleCount := 0
  tvSet := 0
  startPos := 0
  wkc := 0
  motorEnabled := false
  runFlag := true
  outRec := []
  inRec := []
  enableEvt := false
  report := false
  exOut := none
  params := Config.params
  pending := []
  draws := 0

end Sys2Proof.Machine
end

