-- ==== Sys2Proof/Machine/Ops.lean ====
section
/-! DEFINITION. The named operations over the two records, the registers and the ports, from which every
meaning is built. -/

namespace Sys2Proof.Machine

/-! ### Outcomes -/

/-- Go on with `f` after a next state; a fault or a refusal stands. -/
def andThen {σ τ : Type} (r : Host.Outcome σ Fault Refusal) (f : σ → Host.Outcome τ Fault Refusal) :
    Host.Outcome τ Fault Refusal :=
  match r with
  | .next s => f s
  | .fault e => .fault e
  | .refused e => .refused e

/-- A result that stands only with `STRICT_STATUS = false`, the one value with a defined meaning; with
`true` the configuration is refused (41_decision_engine.md R164, 93_implementation_defined.md U4;
assumption log entry 3). -/
def State.permissive (s : State) (r : Result) : Result :=
  if s.params.strictStatus then .refused .strictStatus else r

/-! ### A record as a list of cells -/

/-- The byte at an offset; an unlisted offset reads as 0x00. -/
def Memory.get : Memory → Nat → Byte
  | [], _ => 0
  | c :: rest, a => if c.1 = a then c.2 else Memory.get rest a

/-- Put a cell at its place in the rising order. -/
def Memory.insert : Memory → Nat → Byte → Memory
  | [], a, b => [(a, b)]
  | c :: rest, a, b => if a < c.1 then (a, b) :: c :: rest else c :: Memory.insert rest a b

/-- Take every cell of an offset out. -/
def Memory.erase : Memory → Nat → Memory
  | [], _ => []
  | c :: rest, a => if c.1 = a then Memory.erase rest a else c :: Memory.erase rest a

/-- Write one byte. The value an unlisted offset reads as is not listed. -/
def Memory.set (m : Memory) (a : Nat) (b : Byte) : Memory :=
  if b = 0 then Memory.erase m a else Memory.insert (Memory.erase m a) a b

/-- Write the bytes `f 0`, ..., `f (n-1)` at the offsets `at_ 0`, ..., `at_ (n-1)`. -/
def Memory.store (m : Memory) (at_ : Nat → Nat) (f : Nat → Byte) : Nat → Memory
  | 0 => m
  | n + 1 => (Memory.store m at_ f n).set (at_ n) (f n)

/-- Read an `n`-byte field at offset `off` (00_scope.md R13, 20_memory.md R63). -/
def Memory.read (o : ByteOrder) (m : Memory) (off n : Nat) : BitVec (8 * n) :=
  assemble n (fun i => m.get (off + o.place n i))

/-- Write an `n`-byte field at offset `off` (00_scope.md R13, 20_memory.md R63). -/
def Memory.write (o : ByteOrder) (m : Memory) (off n : Nat) (v : BitVec (8 * n)) : Memory :=
  m.store (fun i => off + o.place n i) (byteOf v) n

/-- All 16 bytes as a port carries them, byte 0 in bits 7:0 (10_state.md R38). -/
def Memory.toRecord (m : Memory) : Record := assemble 16 m.get

/-- The memory that holds the 16 bytes of a record. -/
def Memory.ofRecord (r : Record) : Memory := Memory.store [] id (byteOf r) 16

/-- The 16 bytes in the order of their offsets. -/
def Memory.bytes (m : Memory) : List Byte := (List.range 16).map m.get

/-- Canonical from an offset on: rising, below 16, no zero byte. -/
def Memory.wfFrom : Nat → Memory → Bool
  | _, [] => true
  | lo, c :: rest => decide (lo ≤ c.1) && decide (c.1 < 16) && decide (c.2 ≠ 0)
      && Memory.wfFrom (c.1 + 1) rest

/-- The canonical form of a record's memory. -/
def Memory.wf (m : Memory) : Bool := Memory.wfFrom 0 m

/-! ### Access by space and offset -/

/-- The record of an address space. -/
def State.mem (s : State) : Space → Memory
  | .out => s.outRec
  | .inp => s.inRec

/-- One byte of a record. -/
def State.byte (s : State) (sp : Space) (off : Nat) : Byte := (s.mem sp).get off

/-- The access lies wholly in the record (20_memory.md R61). -/
def inRange (off n : Nat) : Bool := decide (off + n ≤ 16)

/-- An observer's `MemRead(space, off, n)` (00_scope.md R13, 20_memory.md R64). The block's own accesses are
the named fields of Operands.lean. -/
def State.memRead (s : State) (sp : Space) (off n : Nat) : Except Fault (BitVec (8 * n)) :=
  if inRange off n then .ok ((s.mem sp).read Config.byteOrder off n)
  else .error (.outOfRange sp off n)

/-- `MemWrite(space, off, n, v)` (00_scope.md R13). -/
def State.memWrite (s : State) (sp : Space) (off n : Nat) (v : BitVec (8 * n)) : Except Fault State :=
  if inRange off n then
    match sp with
    | .out => .ok { s with outRec := s.outRec.write Config.byteOrder off n v }
    | .inp => .ok { s with inRec := s.inRec.write Config.byteOrder off n v }
  else .error (.outOfRange sp off n)

/-! ### The input ports -/

/-- The values on the input ports at this step: already fixed ones, else a free draw. -/
def State.input (s : State) : Inputs :=
  match s.pending with
  | [] => Config.env s.draws
  | x :: _ => x

/-- The next step sees the next values on the input ports. -/
def State.advance (s : State) : State :=
  { s with
    pending := s.pending.tail
    draws := match s.pending with
      | [] => s.draws + 1
      | _ :: _ => s.draws }

/-- What the next step is selected by (40_cyclic_exchange.md R120). -/
def State.selector (s : State) : Select where
  phase := s.phase
  runFlag := s.runFlag
  start := s.input.start
  operational := s.input.operational
  stopReq := s.input.stopReq

/-- Put an Input Snapshot where the next CYCLE receives it: phase RUN, the loop going on, and a fresh
response with these bytes. -/
def State.placeSnapshot (s : State) (r : Record) : State :=
  { s with
    phase := .run
    runFlag := true
    pending := ⟨false, false, false, true, r, 0⟩ :: s.pending }

/-! ### The output ports -/

/-- The strobes of the previous step fall (40_cyclic_exchange.md R125, R128). -/
def State.clearStrobes (s : State) : State := { s with enableEvt := false, report := false }

/-- At the beginning of a step nothing is driven yet: the strobes are one-step (10_state.md R36) and
`ex_out` is driven by an exchange only (20_memory.md R68, 40_cyclic_exchange.md R131). -/
def State.beginStep (s : State) : State :=
  { s with enableEvt := false, report := false, exOut := none }

/-! ### Writes of the record `OUT` -/

/-- `OUT.control_word <- cw` (30_encoding.md R92: 2 bytes at offset 0). -/
def State.setControlWord (s : State) (cw : Half) : State :=
  { s with outRec := s.outRec.write Config.byteOrder 0 2 cw }

/-- `OUT.target_velocity <- tv` (30_encoding.md R92: 4 bytes at offset 6). -/
def State.setTargetVelocity (s : State) (tv : Word) : State :=
  { s with outRec := s.outRec.write Config.byteOrder 6 4 tv }

/-- `OUT.max_torque <- t` (30_encoding.md R92: 2 bytes at offset 12). -/
def State.setMaxTorque (s : State) (t : Half) : State :=
  { s with outRec := s.outRec.write Config.byteOrder 12 2 t }

/-- `OUT.operating_mode <- m` (30_encoding.md R92: 1 byte at offset 14). -/
def State.setOperatingMode (s : State) (m : Byte) : State :=
  { s with outRec := s.outRec.write Config.byteOrder 14 1 m }

/-- The two writes every action but KEEP begins with (41_decision_engine.md R152 to R157). -/
def State.command (s : State) (cw : Half) (tv : Word) : State :=
  (s.setControlWord cw).setTargetVelocity tv

/-- REASSERT (41_decision_engine.md R160). -/
def State.reassert (s : State) : State :=
  (s.setMaxTorque s.params.maxTorque).setOperatingMode s.params.modeCsv

/-- The drain command (40_cyclic_exchange.md R129). -/
def State.zeroCommand (s : State) : State := s.command 0x0000 0

/-! ### The exchange -/

/-- EXCHANGE (20_memory.md R68): send a copy of `OUT`, receive `IN` or keep it, record the health. -/
def State.exchange (s : State) (resp : Resp) : State :=
  { s with
    exOut := some s.outRec.toRecord
    inRec := match resp with
      | .fresh bytes _ => Memory.ofRecord bytes
      | .stale _ => s.inRec
    wkc := resp.wkc }

/-! ### The counters -/

/-- The end of a CYCLE: count it, and report when the new count is a multiple of the period
(40_cyclic_exchange.md R125, 42_reporting.md R186). DESIGN CHOICE (assumption log entry 23): with a
`REPORT_PERIOD` of 0, which R190 excludes, it reports at the wrapped count 0 only. -/
def State.countCycle (s : State) : State :=
  { s with
    cycleCount := s.cycleCount + 1
    report := if (s.cycleCount + 1).toNat % s.params.reportPeriod = 0 then true else s.report }

/-- The end of a DRAINC: count it, and halt at `DRAIN_CYCLES` (40_cyclic_exchange.md R130). -/
def State.countDrain (s : State) : State :=
  { s with
    drainCount := s.drainCount + 1
    phase := if (s.drainCount + 1).toNat = Config.drainCycles then .halted else s.phase }

/-! ### The block's one exception and its one interrupt -/

/-- `raise StartupFailure` (00_scope.md R14, 60_exceptions.md R210): nothing is saved, `PHASE` becomes
FAILED. There is no return (R211). -/
def State.raiseStartupFailure (s : State) : State := { s with phase := .failed }

/-- Taking the stop request (60_exceptions.md R210): nothing is saved, `DRAIN_COUNT` is cleared and `PHASE`
becomes DRAIN. There is no return (R211). -/
def State.enterDrain (s : State) : State := { s with drainCount := 0, phase := .drain }

/-- The stop request itself clears `RUN_FLAG` (40_cyclic_exchange.md R127). -/
def State.requestStop (s : State) : State := { s with runFlag := false }

/-! ### The two initialising events -/

/-- Loop entry: the defaults and the setpoint (40_cyclic_exchange.md R122, 70_reset_and_hazards.md R230). -/
def State.enterLoop (s : State) : State :=
  { s with
    tvSet := s.params.targetVel
    motorEnabled := false
    startPos := 0
    cycleCount := 0
    phase := .run }

/-- Power-on reset from any state (70_reset_and_hazards.md R230): the reset table, while the parameters
stay (R232) and the environment goes on. No step performs it. -/
def State.powerOnReset (s : State) : State :=
  { State.reset with params := s.params, pending := s.pending, draws := s.draws }

end Sys2Proof.Machine
end

