-- ==== Sys2Proof/Machine/Operands.lean ====
section
/-! DEFINITION. The named fields of the two records (30_encoding.md R91, R92, R93), read as whole values, and
the one-shot latch that copies one of them. -/

namespace Sys2Proof.Machine

/-! ### Fields of `IN` (30_encoding.md R91) -/

/-- `IN.status_word`, u16. -/
def State.statusWord (s : State) : Half := s.inRec.read Config.byteOrder 0 2

/-- `IN.actual_position`, s32. -/
def State.actualPosition (s : State) : Word := s.inRec.read Config.byteOrder 2 4

/-- `IN.actual_velocity`, s32. -/
def State.actualVelocity (s : State) : Word := s.inRec.read Config.byteOrder 6 4

/-- `IN.actual_torque`, s16; the block never reads it. -/
def State.actualTorque (s : State) : Half := s.inRec.read Config.byteOrder 10 2

/-- `IN.error_code`, u16; the block never reads it. -/
def State.errorCode (s : State) : Half := s.inRec.read Config.byteOrder 12 2

/-- `IN.mode_display`, s8. -/
def State.modeDisplay (s : State) : Byte := s.inRec.read Config.byteOrder 14 1

/-- `IN.pad`; the block never reads it. -/
def State.inPad (s : State) : Byte := s.inRec.read Config.byteOrder 15 1

/-- The whole Input Snapshot. -/
def State.snapshot (s : State) : Snapshot where
  statusWord := s.statusWord
  actualPosition := s.actualPosition
  actualVelocity := s.actualVelocity
  actualTorque := s.actualTorque
  errorCode := s.errorCode
  modeDisplay := s.modeDisplay
  pad := s.inPad

/-! ### Fields of `OUT` (30_encoding.md R92) -/

/-- `OUT.control_word`, u16. -/
def State.controlWord (s : State) : Half := s.outRec.read Config.byteOrder 0 2

/-- `OUT.target_position`, s32; never written. -/
def State.targetPosition (s : State) : Word := s.outRec.read Config.byteOrder 2 4

/-- `OUT.target_velocity`, s32. -/
def State.targetVelocity (s : State) : Word := s.outRec.read Config.byteOrder 6 4

/-- `OUT.target_torque`, s16; never written. -/
def State.targetTorque (s : State) : Half := s.outRec.read Config.byteOrder 10 2

/-- `OUT.max_torque`, u16. -/
def State.maxTorque (s : State) : Half := s.outRec.read Config.byteOrder 12 2

/-- `OUT.operating_mode`, s8. -/
def State.operatingMode (s : State) : Byte := s.outRec.read Config.byteOrder 14 1

/-- `OUT.pad`; never written. -/
def State.outPad (s : State) : Byte := s.outRec.read Config.byteOrder 15 1

/-- The whole Output Command. -/
def State.outCommand (s : State) : Command where
  controlWord := s.controlWord
  targetPosition := s.targetPosition
  targetVelocity := s.targetVelocity
  targetTorque := s.targetTorque
  maxTorque := s.maxTorque
  operatingMode := s.operatingMode
  pad := s.outPad

/-! ### The latch -/

/-- LATCH (41_decision_engine.md R159): if `MOTOR_ENABLED = 0`, set it, copy the position of the snapshot
that selected the action, and raise `ENABLE_EVT`. -/
def State.latch (s : State) : State :=
  { s with
    motorEnabled := true
    startPos := if s.motorEnabled then s.startPos else s.actualPosition
    enableEvt := if s.motorEnabled then s.enableEvt else true }

end Sys2Proof.Machine
end

