-- ==== Sys2Proof/Machine/Flags.lean ====
section
/-! DEFINITION. The derived flags and conditions: `DSTATE`, `DELTA`, `DELTA_VALID`, `MOVING`, `EXIT_CODE`, the
pending stop, and the four abnormal conditions. None is read by the control path (10_state.md R29). -/

namespace Sys2Proof.Machine

/-- `DSTATE` of the current `IN` (30_encoding.md R94). -/
def State.dstate (s : State) : DState := dstateOf s.statusWord

/-- DELTA, exact in 33 bits (42_reporting.md R181). -/
def State.delta (s : State) : BitVec 33 :=
  s.actualPosition.signExtend 33 - s.startPos.signExtend 33

/-- DELTA_VALID (42_reporting.md R182). -/
def State.deltaValid (s : State) : Bool := s.motorEnabled

/-- MOVING: enabled and strictly beyond the threshold, over the exact integer (42_reporting.md R183). -/
def State.moving (s : State) : Bool :=
  s.motorEnabled && decide (s.params.moveThreshold < s.delta.toInt.natAbs)

/-- `EXIT_CODE`, valid in HALTED and FAILED only (10_state.md R37). -/
def State.exitCode (s : State) : Option (BitVec 1) :=
  match s.phase with
  | .halted => some 0
  | .failed => some 1
  | .idle | .run | .drain => none

/-- The stop request is pending (60_exceptions.md R207). -/
def State.stopPending (s : State) : Bool := !s.runFlag && decide (s.phase = .run)

/-- The four abnormal conditions (60_exceptions.md R200). -/
inductive Condition where
  | startupFailure
  | healthDegraded
  | driveFault
  | unrecognizedStatus
  deriving DecidableEq, Repr

/-- The result of the last exchange was a timeout, or fewer responders than expected answered
(60_exceptions.md R200); nobody in the block detects it (R202). -/
def healthDegraded (resp : Resp) (s : State) : Bool :=
  match resp with
  | .stale _ => true
  | .fresh _ _ => decide (s.wkc.toNat < s.params.wkcExpected.toNat)

/-- Whether a condition of 60_exceptions.md R200 holds, `resp` being the result of the last exchange. -/
def conditionHolds (resp : Resp) (s : State) : Condition → Bool
  | .startupFailure => decide (s.phase = .failed)
  | .healthDegraded => healthDegraded resp s
  | .driveFault => decide (s.statusWord = 0x1208)
  | .unrecognizedStatus => decide (s.dstate = .unrecognized)

end Sys2Proof.Machine
end

