-- ==== Sys2Proof/Machine/DecisionEngine.lean ====
section
/-! DEFINITION. The status-selected actions (41_decision_engine.md R152 to R158) and DECIDE, which
dispatches to them (R151). -/

namespace Sys2Proof.Machine

/-- FRESET, fault reset (41_decision_engine.md R152). -/
def execFreset (s : State) : Result := .next (s.command 0x0080 0)

/-- SHUTDN, shutdown command (41_decision_engine.md R153). -/
def execShutdn (s : State) : Result := .next (s.command 0x0006 0)

/-- SWON, switch on (41_decision_engine.md R154). -/
def execSwon (s : State) : Result := .next (s.command 0x0007 0)

/-- ENOP, enable operation (41_decision_engine.md R155). -/
def execEnop (s : State) : Result := .next (s.command 0x000F 0)

/-- RUNA, hold enabled and command the setpoint (41_decision_engine.md R156). -/
def execRuna (s : State) : Result := .next (s.command 0x000F s.tvSet).latch

/-- RUNB, the same action for the second literal (41_decision_engine.md R157). -/
def execRunb (s : State) : Result := .next (s.command 0x000F s.tvSet).latch

/-- KEEP, unrecognized status: no write (41_decision_engine.md R158). It is this with
`STRICT_STATUS = false` only (R164). -/
def execKeep (s : State) : Result := s.permissive (.next s)

/-- DECIDE, the dispatch (41_decision_engine.md R151). -/
def runDecide (s : State) : Result :=
  if s.statusWord = 0x1208 then execFreset s
  else if s.statusWord = 0x1250 then execShutdn s
  else if s.statusWord = 0x1231 then execSwon s
  else if s.statusWord = 0x1233 then execEnop s
  else if s.statusWord = 0x1237 then execRuna s
  else if s.statusWord = 0x1637 then execRunb s
  else execKeep s

end Sys2Proof.Machine
end

