-- ==== Sys2Proof/Machine/Sequencer.lean ====
section
/-! DEFINITION. The sequencer's operations and the host's event (40_cyclic_exchange.md R122 to R130). -/

namespace Sys2Proof.Machine

/-- START, enter the cyclic loop (40_cyclic_exchange.md R122). -/
def execStart (s : State) : Result := .next s.enterLoop

/-- SFAIL, startup failure (40_cyclic_exchange.md R123). -/
def execSfail (s : State) : Result := .next s.raiseStartupFailure

/-- The part of a CYCLE before DECIDE: the strobes fall, the exchange is made
(40_cyclic_exchange.md R125). -/
def State.beginCycle (s : State) : State := s.clearStrobes.exchange s.input.resp

/-- The part of a CYCLE after DECIDE: REASSERT, the count, the report (40_cyclic_exchange.md R125). -/
def State.endCycle (s : State) : State := s.reassert.countCycle

/-- CYCLE, one iteration of the loop (40_cyclic_exchange.md R125). -/
def execCycle (s : State) : Result :=
  andThen (runDecide s.beginCycle) (fun t => .next t.endCycle)

/-- STOP, the loop-continuation check fails (40_cyclic_exchange.md R128). -/
def execStop (s : State) : Result := .next s.clearStrobes.enterDrain

/-- DRAINC, one drain cycle (40_cyclic_exchange.md R130). -/
def execDrainc (s : State) : Result :=
  .next ((s.zeroCommand.reassert.exchange s.input.resp).countDrain)

/-- STOPREQ, the host's stop request (40_cyclic_exchange.md R127). -/
def execStopreq (s : State) : Result := .next s.requestStop

end Sys2Proof.Machine
end

