-- ==== Sys2Proof/Machine/Dispatch.lean ====
section
/-! DEFINITION. The meaning of every instruction: one arm per constructor of `Instr`, each a direct call. -/

namespace Sys2Proof.Machine

def exec (i : Instr) (s : State) : Host.Outcome State Fault Refusal :=
  match i with
  | .freset => Sys2Proof.Machine.execFreset s
  | .shutdn => Sys2Proof.Machine.execShutdn s
  | .swon => Sys2Proof.Machine.execSwon s
  | .enop => Sys2Proof.Machine.execEnop s
  | .runa => Sys2Proof.Machine.execRuna s
  | .runb => Sys2Proof.Machine.execRunb s
  | .keep _ => Sys2Proof.Machine.execKeep s
  | .start => Sys2Proof.Machine.execStart s
  | .sfail => Sys2Proof.Machine.execSfail s
  | .cycle => Sys2Proof.Machine.execCycle s
  | .stop => Sys2Proof.Machine.execStop s
  | .drainc => Sys2Proof.Machine.execDrainc s
  | .stopreq => Sys2Proof.Machine.execStopreq s

end Sys2Proof.Machine
end

