-- ==== Sys2Proof/Machine/Step.lean ====
section
/-! DEFINITION. One step of the machine: one operation of the sequencer or one event of the host
(00_scope.md R15), or, where the step table has none, waiting. -/

namespace Sys2Proof.Machine

/-- One step. It selects by the registers and the input ports (40_cyclic_exchange.md R120, R127), executes
the instruction with nothing driven on the output ports yet, and lets the next step see the next
inputs. In IDLE without `start`, in HALTED and in FAILED no operation is selected and the state of the
block stays (R120, R131). With `STRICT_STATUS = true` every step is refused (41_decision_engine.md
R164). -/
def step (s : State) : Host.Outcome State Fault Refusal :=
  s.permissive
    (match selectOp s.selector with
    | .error _ => .next s.beginStep.advance
    | .ok i => andThen (exec i s.beginStep) (fun t => .next t.advance))

/-- The state with an instruction of format `S` where the next step receives it: the next step is a CYCLE
whose exchange delivers an Input Snapshot with these bits, every bit above `nbits` being 0. -/
def State.withFetchWord (s : State) (nbits w : Nat) : State :=
  s.placeSnapshot (BitVec.ofNat 128 (w % 2 ^ nbits))

end Sys2Proof.Machine
end

