-- ==== Sys2Proof/Machine/Reporting.lean ====
section
/-! DEFINITION. The reporting logic (42_reporting.md): the RPM conversions, the status record and the output
ports. Nothing here is read by the sequencer or by the Decision Engine. -/

namespace Sys2Proof.Machine

/-- Pulses per second to revolutions per minute, exact (42_reporting.md R184). DESIGN CHOICE (assumption log
entry 23): a `RESOLUTION` of 0, which R190 excludes, gives 0. -/
def pulsesToRpm (resolution : Nat) (v : Word) : Rat := (v.toInt : Rat) * 60 / (resolution : Rat)

/-- RPM_DISPLAY of the current `IN` (42_reporting.md R184). -/
def State.rpmDisplay (s : State) : Rat := pulsesToRpm s.params.resolution s.actualVelocity

/-- The integer nearest to `x`, a tie going away from zero (42_reporting.md R188). -/
def roundHalfAway (x : Rat) : Int :=
  if 0 ≤ x then (x + 1 / 2).floor else -((-x + 1 / 2).floor)

/-- The host's conversion of a configured RPM, before the range check (42_reporting.md R188). DESIGN CHOICE
(assumption log entry 23): a `RESOLUTION` of 0, which R190 excludes, gives 0. -/
def rpmToPulses (resolution : Nat) (rpm : Rat) : Int := roundHalfAway (rpm * (resolution : Rat) / 60)

/-- `as_bits_32(i)`, defined only for an `i` that 32 bits hold (00_scope.md R11). -/
def asBits32 (i : Int) : Option Word :=
  if -(2 : Int) ^ 31 ≤ i ∧ i < (2 : Int) ^ 31 then some (BitVec.ofInt 32 i) else none

/-- The record of a REPORT (42_reporting.md R186). -/
structure Report where
  cycle : BitVec 64
  status : Half
  control : Half
  position : Word
  delta : BitVec 33
  rpm : Rat
  velocity : Word
  mode : Byte
  wkc : Half
  wkcExpected : Half
  deriving DecidableEq, Repr

/-- The values of the record as they stand (42_reporting.md R186). -/
def State.reportRecord (s : State) : Report where
  cycle := s.cycleCount
  status := s.statusWord
  control := s.controlWord
  position := s.actualPosition
  delta := s.delta
  rpm := s.rpmDisplay
  velocity := s.actualVelocity
  mode := s.modeDisplay
  wkc := s.wkc
  wkcExpected := s.params.wkcExpected

/-- The output ports of 10_state.md R38. -/
structure Outputs where
  exOut : Option Record
  phase : BitVec 3
  exitCode : Option (BitVec 1)
  dstate : BitVec 3
  delta : BitVec 33
  deltaValid : Bool
  moving : Bool
  /-- The strobe carries the snapshot value (42_reporting.md R185). -/
  enableEvt : Option Word
  report : Option Report
  deriving DecidableEq, Repr

/-- What the ports show in a state: combinational functions of it (42_reporting.md R180). -/
def State.outputs (s : State) : Outputs where
  exOut := s.exOut
  phase := s.phase.code
  exitCode := s.exitCode
  dstate := s.dstate.code
  delta := s.delta
  deltaValid := s.deltaValid
  moving := s.moving
  enableEvt := if s.enableEvt then some s.startPos else none
  report := if s.report then some s.reportRecord else none

end Sys2Proof.Machine
end

