-- ==== Sys2Proof/Machine/Configuration.lean ====
section
/-! DEFINITION. The host's side before START: the parameter registers and the startup conversion
(10_state.md R35, 42_reporting.md R188, 60_exceptions.md R213). No step performs it. -/

namespace Sys2Proof.Machine

/-- The host writes the parameters, before START only (10_state.md R35). A record with
`STRICT_STATUS = true` is refused (41_decision_engine.md R164, 93_implementation_defined.md U4). DESIGN
CHOICE (assumption log entry 23): a record with `RESOLUTION` or `REPORT_PERIOD` 0, where 00_scope.md R8
has a positive integer, is taken. -/
def State.configure (s : State) (p : Params) : Result :=
  if s.phase = .idle then ({ s with params := p } : State).permissive (.next { s with params := p })
  else .refused .configLocked

/-- `TARGET_VEL = rpm_to_pulses(rpm)`; a result that is no s32 is refused (42_reporting.md R188). -/
def configureRpm (p : Params) (rpm : Rat) : Except Refusal Params :=
  match asBits32 (rpmToPulses p.resolution rpm) with
  | some v => .ok { p with targetVel := v }
  | none => .error .targetVelOutOfRange

/-- One item of a `CONFIG` line (30_encoding.md R105, R106). `STRICT_STATUS = true` is refused
(41_decision_engine.md R164). DESIGN CHOICE (assumption log entry 22): an RPM item is converted with the
`RESOLUTION` that the items before it have left, and the result stays when a later item sets
`RESOLUTION`. DESIGN CHOICE (assumption log entry 23): a `RESOLUTION` or `REPORT_PERIOD` of 0 is taken. -/
def configureItem (p : Params) : ConfigItem → Except Refusal Params
  | .targetVel v => .ok { p with targetVel := v }
  | .modeCsv v => .ok { p with modeCsv := v }
  | .maxTorque v => .ok { p with maxTorque := v }
  | .resolution v => .ok { p with resolution := v }
  | .reportPeriod v => .ok { p with reportPeriod := v }
  | .moveThreshold v => .ok { p with moveThreshold := v }
  | .wkcExpected v => .ok { p with wkcExpected := v }
  | .strictStatus v => if v then .error .strictStatus else .ok { p with strictStatus := false }
  | .rpm r => configureRpm p r

/-- The items of a `CONFIG` line from left to right (DESIGN CHOICE, assumption log entry 22). -/
def configureItems : Params → List ConfigItem → Except Refusal Params
  | p, [] => .ok p
  | p, item :: rest =>
    match configureItem p item with
    | .ok p' => configureItems p' rest
    | .error e => .error e

/-- The host's `CONFIG` line: every item, or nothing and the reason. -/
def State.configureLine (s : State) (items : List ConfigItem) : Result :=
  match configureItems s.params items with
  | .ok p => s.configure p
  | .error e => .refused e

end Sys2Proof.Machine
end

