-- ==== Sys2Proof/Safety.lean ====
section
/-! DEFINITION. What a safe state and a safe run of CiA402-FSM are, in the terms that the statements use. -/

namespace Sys2Proof.Machine

/-- The five values that are ever written to `OUT.control_word` (30_encoding.md R96). -/
def controlWords : List Half := [0x0000, 0x0006, 0x0007, 0x000F, 0x0080]

/-- The zero command of the drain (40_cyclic_exchange.md R129). -/
def State.isZeroCommand (s : State) : Prop := s.controlWord = 0x0000 ∧ s.targetVelocity = 0

/-- The phases in which the loop has not been entered. -/
def beforeLoop : Phase → Bool
  | .idle | .failed => true
  | .run | .drain | .halted => false

/-- What holds in every state that a run reaches. -/
structure State.Inv (s : State) : Prop where
  /-- Both records are in canonical form. -/
  outWf : s.outRec.wf = true
  inWf : s.inRec.wf = true
  /-- The control word is one of the five values (30_encoding.md R96). -/
  control : s.controlWord ∈ controlWords
  /-- The commanded velocity is 0, or the setpoint under the control word 0x000F (10_state.md R24). -/
  velocity : s.targetVelocity = 0 ∨ (s.targetVelocity = s.tvSet ∧ s.controlWord = 0x000F)
  /-- The never-written fields keep their reset value (30_encoding.md R102). -/
  unused : s.targetPosition = 0 ∧ s.targetTorque = 0 ∧ s.outPad = 0
  /-- The constant fields hold their parameters, or `OUT` has never been written
  (41_decision_engine.md R163). -/
  constants : s.outRec = [] ∨
    (s.maxTorque = s.params.maxTorque ∧ s.operatingMode = s.params.modeCsv)
  /-- The setpoint is the parameter once the loop has been entered, and 0 before (10_state.md R24). -/
  setpoint : s.tvSet = if beforeLoop s.phase then 0 else s.params.targetVel
  /-- Before the loop no exchange has happened and nothing has been latched. -/
  fresh : beforeLoop s.phase = true →
    s.outRec = [] ∧ s.inRec = [] ∧ s.wkc = 0 ∧ s.cycleCount = 0 ∧ s.motorEnabled = false
  /-- Until the latch fires `START_POS` is its default. -/
  latch : s.motorEnabled = false → s.startPos = 0
  /-- `DRAIN_COUNT` is 0 outside the drain, below 50 in it, 50 after it (10_state.md R22). -/
  drainCount : match s.phase with
    | .idle | .failed | .run => s.drainCount = 0
    | .drain => s.drainCount.toNat < Config.drainCycles
    | .halted => s.drainCount.toNat = Config.drainCycles
  /-- The drain is entered on a stop request only (60_exceptions.md R207). -/
  stopped : s.phase = .drain ∨ s.phase = .halted → s.runFlag = false
  /-- From the first drain exchange on the command is the zero command. -/
  drained : (s.phase = .drain ∧ s.drainCount ≠ 0) ∨ s.phase = .halted → s.isZeroCommand
  /-- The strobes are raised by a CYCLE only, `ENABLE_EVT` by one that latches (10_state.md R36). -/
  strobes : (s.enableEvt = true ∨ s.report = true → s.phase = .run) ∧
    (s.enableEvt = true → s.motorEnabled = true)

/-- How many exchanges the next `n` steps make. -/
def exchangeCount : Nat → State → Nat
  | 0, _ => 0
  | n + 1, s =>
    match step s with
    | .next t => (if t.exOut.isSome then 1 else 0) + exchangeCount n t
    | .fault _ => 0
    | .refused _ => 0

/-- How many steps of the next `n` raise `ENABLE_EVT`. -/
def enableCount : Nat → State → Nat
  | 0, _ => 0
  | n + 1, s =>
    match step s with
    | .next t => (if t.enableEvt then 1 else 0) + enableCount n t
    | .fault _ => 0
    | .refused _ => 0

/-- What the input ports carry at the `k`-th step from a state on. -/
def State.inputAt (s : State) (k : Nat) : Inputs :=
  match s.pending[k]? with
  | some x => x
  | none => Config.env (s.draws + (k - s.pending.length))

/-- The bytes of `OUT` that hold the control word and the target velocity (30_encoding.md R92). -/
def commandByte (k : Nat) : Prop := k < 2 ∨ (6 ≤ k ∧ k < 10)

/-- The bytes of `OUT` that hold the maximum torque and the operating mode (30_encoding.md R92). -/
def constantByte (k : Nat) : Prop := 12 ≤ k ∧ k < 15

end Sys2Proof.Machine
end

