-- ==== Sys2Proof/Certificates/Slice0/Obligations.lean ====
section
/-! DEFINITION. The statements about CiA402-FSM for the provers. -/

open Sys2Proof Sys2Proof.Machine

/-! ### Status-selected actions -/

/-- Shape of FRESET, SHUTDN, SWON and ENOP: selected by one literal, the action completes in every state,
writes one control word and the velocity 0, and changes nothing else. -/
def Sys2Proof.Machine.ConstantAction (i : Instr) (sw cw : Half) : Prop :=
  (∀ w, decodeStatus w = i ↔ w = sw) ∧
  ∀ s : State, ∃ t, exec i s = .next t ∧
    t.controlWord = cw ∧ t.targetVelocity = 0 ∧
    t = { s with outRec := t.outRec } ∧
    (∀ k, ¬ commandByte k → t.byte .out k = s.byte .out k) ∧
    (s.statusWord = sw → runDecide s = .next t)

/-- R152, R153, R154, R155: the four constant actions. -/
def Obligations.ConstantActionsCommandAndFrame : Prop :=
  ConstantAction .freset 0x1208 0x0080 ∧ ConstantAction .shutdn 0x1250 0x0006 ∧
  ConstantAction .swon 0x1231 0x0007 ∧ ConstantAction .enop 0x1233 0x000F

/-- Shape of RUNA and RUNB: selected by one literal, the action completes in every state, holds enabled,
commands the setpoint and latches once. -/
def Sys2Proof.Machine.RunAction (i : Instr) (sw : Half) : Prop :=
  (∀ w, decodeStatus w = i ↔ w = sw) ∧
  ∀ s : State, ∃ t, exec i s = .next t ∧
    t.controlWord = 0x000F ∧ t.targetVelocity = s.tvSet ∧ t.motorEnabled = true ∧
    (s.motorEnabled = false → t.startPos = s.actualPosition ∧ t.enableEvt = true) ∧
    (s.motorEnabled = true → t.startPos = s.startPos ∧ t.enableEvt = s.enableEvt) ∧
    t = { s with outRec := t.outRec, motorEnabled := true, startPos := t.startPos,
                 enableEvt := t.enableEvt } ∧
    (∀ k, ¬ commandByte k → t.byte .out k = s.byte .out k) ∧
    (s.statusWord = sw → runDecide s = .next t)

/-- R156, R157, R159: RUNA and RUNB do the same, each for its own literal. -/
def Obligations.RunActionsCommandSetpointAndLatch : Prop :=
  RunAction .runa 0x1237 ∧ RunAction .runb 0x1637

/-- R158: with `STRICT_STATUS = false`, KEEP completes in every state and writes nothing; it is selected by
every unlisted word; and after the CYCLE it ran in, the command is the previous one, with mode and
torque reasserted. -/
def Obligations.KeepWritesNothing : Prop :=
  (∀ sw, listedStatusWords.contains sw = false → decodeStatus sw = .keep sw) ∧
  (∀ (sw : Half) (s : State), s.params.strictStatus = false → exec (.keep sw) s = .next s) ∧
  (∀ s : State, s.params.strictStatus = false →
    listedStatusWords.contains s.beginCycle.statusWord = false →
    runDecide s.beginCycle = .next s.beginCycle ∧
    ∃ t, exec .cycle s = .next t ∧ t.controlWord = s.controlWord ∧
      t.targetVelocity = s.targetVelocity ∧ t.maxTorque = s.params.maxTorque ∧
      t.operatingMode = s.params.modeCsv ∧ t.motorEnabled = s.motorEnabled ∧
      t.startPos = s.startPos ∧ t.dstate = .unrecognized)

/-- 41_decision_engine.md R164 and 93_implementation_defined.md U4: `STRICT_STATUS = true` is refused. The
host's write of it is refused, as a `CONFIG` item and as a parameter record, and so is every step; no
step is refused for another reason. Where the refusal stands is the model's choice (assumption log entry
3), and so is that an instruction on its own is refused exactly if it is KEEP, or a CYCLE that meets an
unlisted status. -/
def Obligations.StrictStatusIsRefused : Prop :=
  (∀ p : Params, configureItem p (.strictStatus true) = .error .strictStatus) ∧
  (∀ (s : State) (p : Params), s.phase = .idle → p.strictStatus = true →
    s.configure p = .refused .strictStatus) ∧
  (∀ (s : State) (items : List ConfigItem) (t : State), s.params.strictStatus = false →
    s.configureLine items = .next t → t.params.strictStatus = false) ∧
  (∀ s : State, s.params.strictStatus = true → step s = .refused .strictStatus) ∧
  (∀ (s : State) (e : Refusal), step s = .refused e →
    e = .strictStatus ∧ s.params.strictStatus = true) ∧
  (∀ (i : Instr) (s : State), exec i s = .refused .strictStatus ↔
    s.params.strictStatus = true ∧ ((∃ sw, i = .keep sw) ∨
      (i = .cycle ∧ listedStatusWords.contains s.beginCycle.statusWord = false))) ∧
  (∀ (i : Instr) (s : State) (e : Refusal), exec i s = .refused e → e = .strictStatus)

/-- R97: the control-word encoder as a function of `DSTATE`, as DECIDE leaves it in `OUT`. -/
def Obligations.DecideFollowsTheEncoder : Prop :=
  ∀ s t : State, runDecide s = .next t →
    (s.dstate = .fault → t.controlWord = 0x0080 ∧ t.targetVelocity = 0) ∧
    (s.dstate = .switchOnDisabled → t.controlWord = 0x0006 ∧ t.targetVelocity = 0) ∧
    (s.dstate = .readyToSwitchOn → t.controlWord = 0x0007 ∧ t.targetVelocity = 0) ∧
    (s.dstate = .switchedOn → t.controlWord = 0x000F ∧ t.targetVelocity = 0) ∧
    (s.dstate = .operationEnabled → t.controlWord = 0x000F ∧ t.targetVelocity = s.tvSet) ∧
    (s.dstate = .unrecognized → t.outRec = s.outRec)

/-- 41_decision_engine.md section 4: a decision depends on `IN` through the status word and the position
only, and on no health value; two states that agree in these decide alike. -/
def Obligations.DecisionIgnoresOtherInputs : Prop :=
  ∀ s s' : State, s' = { s with inRec := s'.inRec, wkc := s'.wkc } →
    s'.statusWord = s.statusWord → s'.actualPosition = s.actualPosition →
    (∀ t, runDecide s = .next t →
      runDecide s' = .next { t with inRec := s'.inRec, wkc := s'.wkc }) ∧
    (∀ e, runDecide s = .refused e → runDecide s' = .refused e)

/-- R161: after a CYCLE whose status word is one of the four, the velocity is 0 whatever the setpoint is;
and KEEP is different. -/
def Obligations.ZeroVelocityOutsideOperationEnabled : Prop :=
  (∀ s t : State, exec .cycle s = .next t →
    t.statusWord ∈ [(0x1208 : Half), 0x1250, 0x1231, 0x1233] → t.targetVelocity = 0) ∧
  (∃ s t : State, exec .cycle s = .next t ∧ t.dstate = .unrecognized ∧ t.targetVelocity ≠ 0)

/-- 41_decision_engine.md section 2, corner cases of FRESET: the fault reset is held. The control word leaves 0x0080 only
by another action, by a CYCLE whose status is another listed word, or by a DRAINC. -/
def Obligations.FaultResetIsHeld : Prop :=
  ∀ (i : Instr) (s t : State), exec i s = .next t → s.controlWord = 0x0080 →
    t.controlWord ≠ 0x0080 →
    i ∈ [Instr.shutdn, .swon, .enop, .runa, .runb, .drainc] ∨
    (i = .cycle ∧ t.statusWord ∈ [(0x1250 : Half), 0x1231, 0x1233, 0x1237, 0x1637])

/-! ### Sequencer operations and the host's event -/

/-- R122: START, selected in IDLE by `start` and `operational` whatever `RUN_FLAG` is, writes the defaults
and the setpoint and nothing else. -/
def Obligations.StartEntersTheLoop : Prop :=
  (∀ rf, selectOp ⟨.idle, rf, true, true, false⟩ = .ok .start) ∧
  ∀ s : State, exec .start s = .next
    { s with tvSet := s.params.targetVel, motorEnabled := false, startPos := 0, cycleCount := 0,
             phase := .run }

/-- R123: SFAIL, selected in IDLE by `start` without `operational`, sets `PHASE` to FAILED and writes
nothing else; `EXIT_CODE` becomes 1; FAILED is left by no step, and none makes an exchange in it. -/
def Obligations.SfailEndsTheRun : Prop :=
  (∀ rf, selectOp ⟨.idle, rf, true, false, false⟩ = .ok .sfail) ∧
  (∀ s : State, ∃ t, exec .sfail s = .next t ∧ t = { s with phase := .failed } ∧
    t.exitCode = some 1) ∧
  (∀ s t : State, s.phase = .failed → step s = .next t → t.phase = .failed ∧ t.exOut = none)

/-- R128: STOP, selected in RUN when `RUN_FLAG` is 0, drops the strobes, clears `DRAIN_COUNT`, enters DRAIN,
and writes nothing else; the next operation is a DRAINC. -/
def Obligations.StopEntersTheDrain : Prop :=
  (∀ st op, selectOp ⟨.run, false, st, op, false⟩ = .ok .stop) ∧
  (∀ s : State, exec .stop s = .next
    { s with enableEvt := false, report := false, drainCount := 0, phase := .drain }) ∧
  (∀ rf st op, selectOp ⟨.drain, rf, st, op, false⟩ = .ok .drainc)

/-- R127: STOPREQ, taken in every phase when the host requests it, clears `RUN_FLAG` and writes nothing
else; a second one changes nothing; no instruction sets `RUN_FLAG` back; no output port shows it, and
outside IDLE and RUN the choice of the next operation does not depend on it. -/
def Obligations.StopRequestClearsRunFlag : Prop :=
  (∀ ph rf st op, selectOp ⟨ph, rf, st, op, true⟩ = .ok .stopreq) ∧
  (∀ s : State, exec .stopreq s = .next { s with runFlag := false }) ∧
  (∀ s : State, s.runFlag = false → exec .stopreq s = .next s) ∧
  (∀ (i : Instr) (s t : State), exec i s = .next t → s.runFlag = false → t.runFlag = false) ∧
  (∀ s t : State, exec .stopreq s = .next t → t.outputs = s.outputs) ∧
  (∀ ph st op, ph = .drain ∨ ph = .halted ∨ ph = .failed →
    selectOp ⟨ph, false, st, op, false⟩ = selectOp ⟨ph, true, st, op, false⟩)

/-- R68: the exchange sends a copy of `OUT` and leaves it, takes over a fresh response whole or keeps `IN`,
and records the health; CYCLE and DRAINC alone make one. -/
def Obligations.ExchangeMovesWholeRecords : Prop :=
  (∀ (s : State) (r : Resp), ∃ x, (s.exchange r).exOut = some x ∧
    (∀ k, k < 16 → byteOf x k = s.byte .out k) ∧
    (∀ k, (s.exchange r).byte .out k = s.byte .out k) ∧
    (∀ bytes w, r = .fresh bytes w →
      (s.exchange r).wkc = w ∧ ∀ k, k < 16 → (s.exchange r).byte .inp k = byteOf bytes k) ∧
    (∀ w, r = .stale w →
      (s.exchange r).wkc = w ∧ ∀ k, (s.exchange r).byte .inp k = s.byte .inp k) ∧
    s.exchange r = { s with exOut := (s.exchange r).exOut, inRec := (s.exchange r).inRec,
                            wkc := (s.exchange r).wkc }) ∧
  (∀ (i : Instr) (s t : State), exec i s = .next t → i ≠ .cycle → i ≠ .drainc →
    t.exOut = s.exOut ∧ t.inRec = s.inRec ∧ t.wkc = s.wkc) ∧
  (∀ s t : State, exec .cycle s = .next t →
    t.exOut = some s.outRec.toRecord ∧ t.inRec = (s.exchange s.input.resp).inRec ∧
    t.wkc = s.input.resp.wkc) ∧
  (∀ s t : State, exec .drainc s = .next t →
    t.exOut = some t.outRec.toRecord ∧ t.inRec = (s.exchange s.input.resp).inRec ∧
    t.wkc = s.input.resp.wkc)

/-- R125: with `STRICT_STATUS = false` a CYCLE completes in every state. It sends `OUT` as it stood,
receives or keeps `IN`, decides on it, reasserts, counts and reports, and writes nothing else. What it
reports with a `REPORT_PERIOD` of 0 is the model's choice (assumption log entry 23), and so is the report at
a count that has wrapped to 0 (entry 14). -/
def Obligations.CycleRunsTheLoopBody : Prop :=
  (∀ st op, selectOp ⟨.run, true, st, op, false⟩ = .ok .cycle) ∧
  ∀ s : State, s.params.strictStatus = false →
    ∃ t, exec .cycle s = .next t ∧
      t.exOut = some s.outRec.toRecord ∧
      t.inRec = (s.exchange s.input.resp).inRec ∧
      t.wkc = s.input.resp.wkc ∧
      (t.controlWord, t.targetVelocity) =
        (commandOf t.dstate s.tvSet).getD (s.controlWord, s.targetVelocity) ∧
      t.maxTorque = s.params.maxTorque ∧ t.operatingMode = s.params.modeCsv ∧
      t.motorEnabled = (s.motorEnabled || decide (t.dstate = .operationEnabled)) ∧
      t.enableEvt = (!s.motorEnabled && decide (t.dstate = .operationEnabled)) ∧
      t.startPos = (if t.enableEvt then t.actualPosition else s.startPos) ∧
      t.cycleCount = s.cycleCount + 1 ∧
      t.report = decide (t.cycleCount.toNat % s.params.reportPeriod = 0) ∧
      t = { s with outRec := t.outRec, inRec := t.inRec, exOut := t.exOut, wkc := t.wkc,
                   motorEnabled := t.motorEnabled, startPos := t.startPos,
                   enableEvt := t.enableEvt, cycleCount := t.cycleCount, report := t.report } ∧
      (∀ k, ¬ commandByte k → ¬ constantByte k → t.byte .out k = s.byte .out k)

/-- R129, R130: a DRAINC completes in every state. It writes the zero command and the constant fields,
sends them in the same exchange, counts, halts at 50, and writes nothing else. -/
def Obligations.DraincSendsTheZeroCommand : Prop :=
  (∀ rf st op, selectOp ⟨.drain, rf, st, op, false⟩ = .ok .drainc) ∧
  ∀ s : State, ∃ t, exec .drainc s = .next t ∧
    t.controlWord = 0x0000 ∧ t.targetVelocity = 0 ∧
    t.maxTorque = s.params.maxTorque ∧ t.operatingMode = s.params.modeCsv ∧
    t.exOut = some t.outRec.toRecord ∧ decodeCommand t.outRec.toRecord = t.outCommand ∧
    t.inRec = (s.exchange s.input.resp).inRec ∧
    t.wkc = s.input.resp.wkc ∧
    t.drainCount = s.drainCount + 1 ∧
    t.phase = (if t.drainCount = 50 then .halted else s.phase) ∧
    t = { s with outRec := t.outRec, inRec := t.inRec, exOut := t.exOut, wkc := t.wkc,
                 drainCount := t.drainCount, phase := t.phase } ∧
    (∀ k, ¬ commandByte k → ¬ constantByte k → t.byte .out k = s.byte .out k)

/-- R120: the step table, row by row, when the host requests no stop. -/
def Obligations.StepTableSelects : Prop :=
  ∀ x : Select, x.stopReq = false →
    (x.phase = .idle → x.start = true → x.operational = true → selectOp x = .ok .start) ∧
    (x.phase = .idle → x.start = true → x.operational = false → selectOp x = .ok .sfail) ∧
    (x.phase = .idle → x.start = false → selectOp x = .error .waiting) ∧
    (x.phase = .run → x.runFlag = true → selectOp x = .ok .cycle) ∧
    (x.phase = .run → x.runFlag = false → selectOp x = .ok .stop) ∧
    (x.phase = .drain → selectOp x = .ok .drainc) ∧
    (x.phase = .halted → selectOp x = .error .halted) ∧
    (x.phase = .failed → selectOp x = .error .failed)

/-! ### Steps -/

/-- A step executes the instruction that the registers and the input ports select, with nothing driven on
the output ports yet, and passes on to the next inputs (the model's form of a step: assumption log
entries 2 and 5). The premise is the one that 93_implementation_defined.md U4 gives every claim. -/
def Obligations.StepExecutesTheSelected : Prop :=
  ∀ (s : State) (i : Instr), s.params.strictStatus = false → selectOp s.selector = .ok i →
    step s = andThen (exec i s.beginStep) (fun t => .next t.advance)

/-- The status word is the fetched instruction (20_memory.md section 7): when a step is a CYCLE and the 16
bytes that its exchange leaves in `IN` decode to a well-formed instruction, the step is `exec` of that
instruction between the beginning and the end of the CYCLE. -/
def Obligations.StepRunsTheFetchedAction : Prop :=
  ∀ (s : State) (i : Instr), s.params.strictStatus = false →
    s.phase = .run → s.runFlag = true → s.input.stopReq = false →
    decodeBytes s.beginStep.beginCycle.inRec.bytes = .ok i → WellFormed i = true →
    step s = andThen (exec i s.beginStep.beginCycle) (fun t => .next t.endCycle.advance)

/-- 40_cyclic_exchange.md section 4: in HALTED and FAILED, when the host requests no stop, a step makes no
exchange and changes nothing of the block; `EXIT_CODE` is 0 in HALTED and 1 in FAILED. In IDLE without
`start` the block waits the same way. That such a step answers a next state, in which the strobes have
fallen, is the model's choice (assumption log entries 5 and 6). -/
def Obligations.FinalPhasesStay : Prop :=
  ∀ s : State, s.params.strictStatus = false → s.input.stopReq = false →
    s.phase = .halted ∨ s.phase = .failed ∨ (s.phase = .idle ∧ s.input.start = false) →
    ∃ t, step s = .next t ∧
      t = { s with enableEvt := false, report := false, exOut := none, pending := t.pending,
                   draws := t.draws } ∧
      (s.phase = .halted → t.exitCode = some 0) ∧ (s.phase = .failed → t.exitCode = some 1) ∧
      (s.phase = .idle → t.exitCode = none)

/-- R21: the codes of `PHASE` on its port, its four edges, and the operation that takes each. -/
def Obligations.PhaseEdgesAreExact : Prop :=
  (Phase.code .idle = 0 ∧ Phase.code .run = 1 ∧ Phase.code .drain = 2 ∧ Phase.code .halted = 3 ∧
    Phase.code .failed = 4) ∧
  (∀ s : State, s.outputs.phase = s.phase.code) ∧
  ∀ s t : State, step s = .next t → t.phase = s.phase ∨
    (s.phase = .idle ∧ t.phase = .run ∧ selectOp s.selector = .ok .start) ∨
    (s.phase = .idle ∧ t.phase = .failed ∧ selectOp s.selector = .ok .sfail) ∨
    (s.phase = .run ∧ t.phase = .drain ∧ selectOp s.selector = .ok .stop) ∨
    (s.phase = .drain ∧ t.phase = .halted ∧ selectOp s.selector = .ok .drainc)

/-- R205: no instruction and no step faults; with `STRICT_STATUS = false`, the one defined value, every
instruction completes, and every step that selects one. -/
def Obligations.NothingFaults : Prop :=
  (∀ (i : Instr) (s : State) (e : Fault), exec i s ≠ .fault e) ∧
  (∀ (s : State) (e : Fault), step s ≠ .fault e) ∧
  (∀ (i : Instr) (s : State), s.params.strictStatus = false → ∃ t, exec i s = .next t) ∧
  (∀ (i : Instr) (s : State), s.params.strictStatus = false → selectOp s.selector = .ok i →
    ∃ t, step s = .next t)

/-- 60_exceptions.md section 5: who writes what. A step never writes a parameter; the host's request writes
`RUN_FLAG`, to 0, and nothing else of the block; the sequencer never writes `RUN_FLAG`. That the output
strobes fall in the request's step is the model's reading (assumption log entry 5). -/
def Obligations.OwnershipIsKept : Prop :=
  ∀ s t : State, step s = .next t →
    t.params = s.params ∧
    (s.input.stopReq = true → t = { s with
      runFlag := false, enableEvt := false, report := false, exOut := none,
      pending := t.pending, draws := t.draws }) ∧
    (s.input.stopReq = false → t.runFlag = s.runFlag)

/-- 10_state.md sections 2 to 4: which instruction writes which register, and to what. -/
def Obligations.RegistersHaveTheirWriters : Prop :=
  ∀ (i : Instr) (s t : State), exec i s = .next t →
    t.cycleCount = (if i = .cycle then s.cycleCount + 1 else if i = .start then 0
      else s.cycleCount) ∧
    t.drainCount = (if i = .drainc then s.drainCount + 1 else if i = .stop then 0
      else s.drainCount) ∧
    t.tvSet = (if i = .start then s.params.targetVel else s.tvSet) ∧
    t.runFlag = (if i = .stopreq then false else s.runFlag) ∧
    (i ≠ .start → s.motorEnabled = true → t.motorEnabled = true ∧ t.startPos = s.startPos) ∧
    (t.targetPosition = s.targetPosition ∧ t.targetTorque = s.targetTorque ∧
      t.outPad = s.outPad) ∧
    (t.controlWord = s.controlWord ∨ t.controlWord ∈ controlWords)

/-- 20_memory.md section 7: the exchange of a CYCLE sends what the step before left in `OUT`, field by
field. -/
def Obligations.OutputLatencyIsOneStep : Prop :=
  ∀ s t u : State, step s = .next t → step t = .next u → selectOp t.selector = .ok .cycle →
    ∃ x, u.exOut = some x ∧ decodeCommand x = t.outCommand

/-- 40_cyclic_exchange.md R125, corner case (a): after a CYCLE, another one whose exchange times out leaves
the Output Command, the latch and the snapshot as they are and raises no `ENABLE_EVT`. -/
def Obligations.StaleCycleRepeatsTheCommand : Prop :=
  ∀ (s t : State) (x : Inputs) (w : Half), exec .cycle s = .next t → x.resp = .stale w →
    ∃ u, exec .cycle { t with pending := x :: t.pending } = .next u ∧
      u.outCommand = t.outCommand ∧ u.snapshot = t.snapshot ∧ u.motorEnabled = t.motorEnabled ∧
      u.startPos = t.startPos ∧ u.enableEvt = false ∧ u.wkc = w

/-- 60_exceptions.md section 3: in IDLE the operational check comes before a pending stop, and in RUN a
pending stop comes before the exchange and before any status. -/
def Obligations.PriorityOfChecks : Prop :=
  (∀ s : State, s.params.strictStatus = false → s.input.stopReq = false → s.phase = .idle →
    s.input.start = true → s.input.operational = false →
    ∃ t, step s = .next t ∧ t.phase = .failed ∧ t.exOut = none) ∧
  (∀ s : State, s.params.strictStatus = false → s.input.stopReq = false → s.phase = .run →
    s.runFlag = false →
    ∃ t, step s = .next t ∧ t.phase = .drain ∧ t.exOut = none ∧ t.outRec = s.outRec ∧
      t.inRec = s.inRec ∧ t.motorEnabled = s.motorEnabled)

/-- The spec's decision D22 (10_state.md R42): a stop request that came before START is not lost; the first
operation after START is STOP. -/
def Obligations.EarlyStopRequestIsKept : Prop :=
  ∀ s t : State, s.phase = .idle → s.runFlag = false → selectOp s.selector = .ok .start →
    step s = .next t →
    t.phase = .run ∧ t.runFlag = false ∧ (t.input.stopReq = false → selectOp t.selector = .ok .stop)

/-! ### Invariants and runs -/

/-- Every step keeps the invariant. -/
def Obligations.StepKeepsTheInvariant : Prop :=
  ∀ s t : State, s.Inv → step s = .next t → t.Inv

/-- The state after reset has the invariant. -/
def Obligations.ResetHasTheInvariant : Prop := State.reset.Inv

/-- R41: the reset table, each value of it, after power-on reset from any state and in the reset state. -/
def Obligations.ResetValues : Prop :=
  ∀ s r : State, r = s.powerOnReset ∨ r = State.reset →
    r.phase = .idle ∧ Phase.code r.phase = 0 ∧ r.drainCount = 0 ∧ r.cycleCount = 0 ∧ r.tvSet = 0 ∧
    r.startPos = 0 ∧ r.wkc = 0 ∧ r.motorEnabled = false ∧ r.runFlag = true ∧
    (∀ k, k < 16 → r.byte .out k = 0) ∧ (∀ k, k < 16 → r.byte .inp k = 0) ∧
    r.enableEvt = false ∧ r.report = false

/-- R162: once enabled, no step of the loop, the drain or the end disables or snapshots again; and a step
enables exactly when it is a CYCLE that reports operation enabled, with the position of that
snapshot. -/
def Obligations.LatchFiresOnceAtTheFirstEnable : Prop :=
  ∀ s t : State, s.phase ≠ .idle → step s = .next t →
    (s.motorEnabled = true → t.motorEnabled = true ∧ t.startPos = s.startPos) ∧
    (s.motorEnabled = false →
      (t.motorEnabled = true ↔ selectOp s.selector = .ok .cycle ∧
        (t.statusWord = 0x1237 ∨ t.statusWord = 0x1637)) ∧
      (t.motorEnabled = true → t.startPos = t.actualPosition) ∧
      (t.motorEnabled = false → t.startPos = s.startPos))

/-- R185: `ENABLE_EVT` is 1 in exactly the CYCLE step in which the latch fires and carries the new
`START_POS`; no run raises it twice. -/
def Obligations.EnableEventStrobesOnce : Prop :=
  (∀ s t : State, step s = .next t → t.outputs.enableEvt =
    (if selectOp s.selector = .ok .cycle ∧ s.motorEnabled = false ∧ t.dstate = .operationEnabled
      then some t.actualPosition else none)) ∧
  (∀ (n : Nat) (s : State), s.Inv → enableCount n s ≤ 1)

/-- 42_reporting.md section 4: a REPORT is delivered in exactly the CYCLE steps whose new count is a multiple
of the period (R186), with the values as they stand at the end of that CYCLE. That the strobe is down
after every other step, a STOPREQ included, is the model's reading of "one-step strobe" (assumption log
entry 5), and the report at a count that has wrapped to 0 is another (entry 14). With a `REPORT_PERIOD` of 0
that is the only report, which is the model's choice (entry 23). -/
def Obligations.ReportIsPeriodic : Prop :=
  ∀ s t : State, step s = .next t → t.outputs.report =
    (if selectOp s.selector = .ok .cycle ∧ t.cycleCount.toNat % s.params.reportPeriod = 0 then
      some { cycle := s.cycleCount + 1, status := t.statusWord, control := t.controlWord,
             position := t.actualPosition, delta := t.delta, rpm := t.rpmDisplay,
             velocity := t.actualVelocity, mode := t.modeDisplay, wkc := s.input.resp.wkc,
             wkcExpected := s.params.wkcExpected }
    else none)

/-- 40_cyclic_exchange.md section 4: once the stop request is pending in the loop or later, a run of any
length makes at most 50 more exchanges, whatever the environment does. -/
def Obligations.AtMostFiftyExchangesAfterAStop : Prop :=
  ∀ (n : Nat) (s : State), s.Inv → s.runFlag = false → s.phase ≠ .idle → exchangeCount n s ≤ 50

/-- 40_cyclic_exchange.md section 4: a stop request pending in RUN is followed, if the host requests no
further one, by a STOP and exactly 50 DRAINC: after 51 steps the block is halted, with the zero command
in `OUT` and `EXIT_CODE = 0`, having made 50 exchanges. -/
def Obligations.StopHaltsAfterFiftyOneSteps : Prop :=
  ∀ s : State, s.params.strictStatus = false → s.phase = .run → s.runFlag = false →
    (∀ k, k < 51 → (s.inputAt k).stopReq = false) →
    ∃ t, Sys2Proof.core.run 51 s = .next t ∧ t.phase = .halted ∧ t.exitCode = some 0 ∧
      t.isZeroCommand ∧ t.cycleCount = s.cycleCount ∧ t.motorEnabled = s.motorEnabled ∧
      exchangeCount 51 s = 50

/-! ### Records and encodings -/

/-- Decode and encode agree on every instruction: for a status-selected one with every other field at every
value, byte for byte, and every record is the encoding of what it decodes to; a sequencer operation is
decoded from its selecting values. -/
def Obligations.DecodeEncodeAgree : Prop :=
  (∀ (i : Instr) (rest : Snapshot) (r : Record), WellFormed i = true →
    encodeInstr i rest = some r →
    decodeBytes (recordBytes r) = .ok i ∧
    ∃ sw, encode i = .status sw ∧ decodeSnapshot r = { rest with statusWord := sw }) ∧
  (∀ r : Record, WellFormed (decodeRecord r) = true ∧
    encodeInstr (decodeRecord r) (decodeSnapshot r) = some r) ∧
  (∀ (i : Instr) (x : Select), encode i = .select x → decode (.select x) = .ok i)

/-- The Output Command and its record determine each other. -/
def Obligations.CommandRecordRoundTrip : Prop :=
  (∀ c : Command, decodeCommand (encodeCommand c) = c) ∧
  (∀ r : Record, encodeCommand (decodeCommand r) = r)

/-- 30_encoding.md section 1: the fields of both records as bits of the 128-bit ports. That a field's value is
those bits in their order holds for the little-endian byte order, which the spec decides from general
knowledge (assumption log entry 9). -/
def Obligations.FieldsLieAtTheirBits : Prop :=
  ∀ r : Record,
    decodeSnapshot r =
      ⟨r.extractLsb' 0 16, r.extractLsb' 16 32, r.extractLsb' 48 32, r.extractLsb' 80 16,
        r.extractLsb' 96 16, r.extractLsb' 112 8, r.extractLsb' 120 8⟩ ∧
    decodeCommand r =
      ⟨r.extractLsb' 0 16, r.extractLsb' 16 32, r.extractLsb' 48 32, r.extractLsb' 80 16,
        r.extractLsb' 96 16, r.extractLsb' 112 8, r.extractLsb' 120 8⟩

/-- 20_memory.md section 2: a multi-byte field is stored least significant byte first, in both records
(the spec's decision D1, from general knowledge; assumption log entry 9). -/
def Obligations.FieldsAreLittleEndian : Prop :=
  ∀ (s t : State) (sp : Space) (o : Nat),
    (∀ v : Half, s.memWrite sp o 2 v = .ok t →
      t.byte sp o = v.extractLsb' 0 8 ∧ t.byte sp (o + 1) = v.extractLsb' 8 8) ∧
    (∀ v : Word, s.memWrite sp o 4 v = .ok t →
      t.byte sp o = v.extractLsb' 0 8 ∧ t.byte sp (o + 1) = v.extractLsb' 8 8 ∧
      t.byte sp (o + 2) = v.extractLsb' 16 8 ∧ t.byte sp (o + 3) = v.extractLsb' 24 8)

/-- 00_scope.md section 4 with 20_memory.md section 1: an access that lies in the record completes, reads
what was written there and leaves the other bytes; the model's choice (assumption log entry 8) for one
that does not is a fault. That offset 0 of `IN` holds the low byte of the status word rests on the
little-endian byte order (assumption log entry 9). -/
def Obligations.MemoryAccessLaws : Prop :=
  (∀ (s : State) (sp : Space) (off n : Nat) (v : BitVec (8 * n)), off + n ≤ 16 →
    ∃ t, s.memWrite sp off n v = .ok t ∧ t.memRead sp off n = .ok v ∧
      (∀ sp' k, sp' ≠ sp ∨ k < off ∨ off + n ≤ k → t.byte sp' k = s.byte sp' k)) ∧
  (∀ (s : State) (sp : Space) (off n : Nat) (v : BitVec (8 * n)), 16 < off + n →
    s.memWrite sp off n v = .error (.outOfRange sp off n) ∧
    s.memRead sp off n = .error (.outOfRange sp off n)) ∧
  (∀ s : State, s.memRead .inp 0 1 = .ok (s.statusWord.extractLsb' 0 8))

/-- R94: `DSTATE` by exact equality, its codes, and the action of each row. -/
def Obligations.DecoderTable : Prop :=
  ∀ sw : Half,
    (dstateOf sw = .fault ↔ sw = 0x1208) ∧ (decodeStatus sw = .freset ↔ sw = 0x1208) ∧
    (dstateOf sw = .switchOnDisabled ↔ sw = 0x1250) ∧ (decodeStatus sw = .shutdn ↔ sw = 0x1250) ∧
    (dstateOf sw = .readyToSwitchOn ↔ sw = 0x1231) ∧ (decodeStatus sw = .swon ↔ sw = 0x1231) ∧
    (dstateOf sw = .switchedOn ↔ sw = 0x1233) ∧ (decodeStatus sw = .enop ↔ sw = 0x1233) ∧
    (dstateOf sw = .operationEnabled ↔ sw = 0x1237 ∨ sw = 0x1637) ∧
    (decodeStatus sw = .runa ↔ sw = 0x1237) ∧ (decodeStatus sw = .runb ↔ sw = 0x1637) ∧
    (dstateOf sw = .unrecognized ↔ listedStatusWords.contains sw = false) ∧
    (decodeStatus sw = .keep sw ↔ listedStatusWords.contains sw = false) ∧
    [DState.unrecognized, .fault, .switchOnDisabled, .readyToSwitchOn, .switchedOn,
      .operationEnabled].map DState.code = [0, 1, 2, 3, 4, 5]

/-- The vectors E1 to E5 of 95_test_vectors.md, byte by byte, decode to their action and to their fields;
what a byte string decodes to rests on the little-endian byte order (assumption log entry 9). -/
def Obligations.VectorRecordsDecode : Prop :=
  ∀ v ∈ ([
    ([0x50, 0x12, 0, 0, 0, 0, 0, 0, 0, 0, 0, 0, 0, 0, 9, 0], .shutdn, ⟨0x1250, 0, 0, 0, 0, 9, 0⟩),
    ([0x37, 0x12, 0xE8, 0x03, 0, 0, 0, 0, 0, 0, 0, 0, 0, 0, 9, 0], .runa,
      ⟨0x1237, 1000, 0, 0, 0, 9, 0⟩),
    ([0x37, 0x16, 0x38, 0xFF, 0xFF, 0xFF, 0, 0, 0, 0, 0, 0, 0, 0, 9, 0], .runb,
      ⟨0x1637, BitVec.ofInt 32 (-200), 0, 0, 0, 9, 0⟩),
    ([0x08, 0x12, 0x4D, 0, 0, 0, 0, 0, 0, 0, 0, 0, 0, 0x75, 9, 0], .freset,
      ⟨0x1208, 77, 0, 0, 0x7500, 9, 0⟩),
    ([0x37, 0x12, 0x4F, 0xFB, 0xFF, 0xFF, 0x50, 0x55, 0, 0, 0, 0, 0, 0, 9, 0], .runa,
      ⟨0x1237, BitVec.ofInt 32 (-1201), 21840, 0, 0, 9, 0⟩)] : List (List Byte × Instr × Snapshot)),
    decodeBytes v.1 = .ok v.2.1 ∧ decodeSnapshot (packRecord v.1) = v.2.2

/-! ### Reporting and configuration -/

/-- R181: DELTA is the exact difference of the two signed values, in every state. -/
def Obligations.DeltaIsExact : Prop :=
  ∀ s : State, s.delta.toInt = s.actualPosition.toInt - s.startPos.toInt

/-- R183: MOVING is the strict comparison of the exact distance, gated by `MOTOR_ENABLED`. R182: DELTA_VALID
is `MOTOR_ENABLED`. The ports show both, and DELTA and the code of `DSTATE`. -/
def Obligations.MovingIsStrictAndGated : Prop :=
  ∀ s : State,
    (s.moving = true ↔ s.motorEnabled = true ∧
      (s.params.moveThreshold : Int) < |s.actualPosition.toInt - s.startPos.toInt|) ∧
    s.deltaValid = s.motorEnabled ∧
    s.outputs.deltaValid = s.motorEnabled ∧ s.outputs.moving = s.moving ∧
    s.outputs.delta = s.delta ∧ s.outputs.dstate = s.dstate.code

/-- R184: RPM_DISPLAY is the exact quotient, in every state; that it is 0 where `RESOLUTION` is 0 is the
model's choice (assumption log entry 23). -/
def Obligations.RpmDisplayIsExact : Prop :=
  ∀ s : State,
    s.rpmDisplay = (s.actualVelocity.toInt : Rat) * 60 / (s.params.resolution : Rat) ∧
    (s.params.resolution = 131072 →
      s.rpmDisplay = (s.actualVelocity.toInt : Rat) * 15 / 32768)

/-- 42_reporting.md section 5: the startup conversion is the nearest integer to `rpm * RESOLUTION / 60`, a
tie going away from zero (the spec's decision D14, from general knowledge; assumption log entry 10). The
configuration is accepted with that value when it is a signed 32-bit one and refused when it is not. That
a `RESOLUTION` of 0 is converted like any other is the model's choice (entry 23). -/
def Obligations.RpmConversionRoundsOrRefuses : Prop :=
  (∀ (n : Nat) (rpm : Rat),
    |(rpmToPulses n rpm : Rat) - rpm * n / 60| ≤ 1 / 2 ∧
    (|(rpmToPulses n rpm : Rat) - rpm * n / 60| = 1 / 2 →
      |rpm * n / 60| < |(rpmToPulses n rpm : Rat)|)) ∧
  (∀ (p : Params) (rpm : Rat),
    (-(2 : Int) ^ 31 ≤ rpmToPulses p.resolution rpm ∧ rpmToPulses p.resolution rpm < 2 ^ 31 →
      ∃ v : Word, configureRpm p rpm = .ok { p with targetVel := v } ∧
        v.toInt = rpmToPulses p.resolution rpm) ∧
    (¬ (-(2 : Int) ^ 31 ≤ rpmToPulses p.resolution rpm ∧ rpmToPulses p.resolution rpm < 2 ^ 31) →
      configureRpm p rpm = .error .targetVelOutOfRange))

/-- 42_reporting.md section 5: a velocity shown in RPM and converted back is the velocity. -/
def Obligations.RpmRoundTrip : Prop :=
  ∀ (n : Nat) (v : Word), 0 < n → rpmToPulses n (pulsesToRpm n v) = v.toInt

/-- R37: `EXIT_CODE` is 0 in HALTED, 1 in FAILED, and not valid in any other phase. -/
def Obligations.ExitCodeFollowsPhase : Prop :=
  ∀ s : State, (s.exitCode = some 0 ↔ s.phase = .halted) ∧ (s.exitCode = some 1 ↔ s.phase = .failed) ∧
    (s.exitCode = none ↔ s.phase = .idle ∨ s.phase = .run ∨ s.phase = .drain)

/-- The host's write of the parameters (10_state.md section 6), with `STRICT_STATUS = false`: it is taken in
IDLE and changes nothing else, also a record with `RESOLUTION` or `REPORT_PERIOD` 0, which is the model's
choice (assumption log entry 23); the model's choice (entry 11) in another phase is a refusal. Power-on reset leaves the parameters (70_reset_and_hazards.md section 1). -/
def Obligations.ParametersAreSetBeforeStart : Prop :=
  ∀ (s : State) (p : Params),
    (s.phase = .idle → p.strictStatus = false → s.configure p = .next { s with params := p }) ∧
    (s.phase ≠ .idle → s.configure p = .refused .configLocked) ∧
    s.powerOnReset.params = s.params
end

