-- ==== Sys2Proof/Laws/Bytes.lean ====
section
/-! SUPPORT. Bytes and fields: assembling bytes and taking them apart are inverse (30_encoding.md R93). -/

namespace Sys2Proof

theorem byteOf_eq_iff {w : Nat} (n : Nat) (hw : w = 8 * n) (u v : BitVec w)
    (h : ∀ i, i < n → byteOf u i = byteOf v i) : u = v := by
  subst hw
  apply BitVec.eq_of_getLsbD_eq
  intro k hk
  have hi : k / 8 < n := by omega
  have hb := congrArg (fun b => b.getLsbD (k % 8)) (h (k / 8) hi)
  have hm : k % 8 < 8 := by omega
  have hk8 : 8 * (k / 8) + k % 8 = k := by omega
  simpa [byteOf, hm, hk8] using hb

/-- The bytes of an assembled value are the bytes it was assembled from. -/
theorem byteOf_assemble (n : Nat) (f : Nat → Byte) (i : Nat) (h : i < n) :
    byteOf (assemble n f) i = f i := by
  induction n generalizing f i with
  | zero => omega
  | succ n ih =>
    apply BitVec.eq_of_getLsbD_eq
    intro k hk
    cases i with
    | zero =>
      simp [byteOf, assemble, BitVec.getLsbD_append, hk]
    | succ i =>
      have hs := congrArg (fun b => b.getLsbD k) (ih (fun j => f (j + 1)) i (by omega))
      have e1 : ¬ 8 * (i + 1) + k < 8 := by omega
      have e2 : 8 * (i + 1) + k - 8 = 8 * i + k := by omega
      simpa [byteOf, assemble, BitVec.getLsbD_append, hk, e1, e2] using hs

/-- A value is assembled from its own bytes. -/
theorem assemble_byteOf (n : Nat) (v : BitVec (8 * n)) : assemble n (byteOf v) = v :=
  byteOf_eq_iff n rfl _ _ (fun i hi => byteOf_assemble n _ i hi)

/-- Only the first `n` bytes matter. -/
theorem assemble_congr (n : Nat) (f g : Nat → Byte) (h : ∀ i, i < n → f i = g i) :
    assemble n f = assemble n g :=
  byteOf_eq_iff n rfl _ _ (fun i hi => by
    rw [byteOf_assemble n f i hi, byteOf_assemble n g i hi, h i hi])

/-- A value assembled from the bytes of `v` is `v`. -/
theorem assemble_eq (n : Nat) (f : Nat → Byte) (v : BitVec (8 * n))
    (h : ∀ i, i < n → f i = byteOf v i) : assemble n f = v :=
  (assemble_congr n f (byteOf v) h).trans (assemble_byteOf n v)

theorem ByteOrder.place_lt (o : ByteOrder) (n i : Nat) (h : i < n) : o.place n i < n := by
  cases o <;> simp only [ByteOrder.place] <;> omega

theorem ByteOrder.place_inj (o : ByteOrder) (n i j : Nat) (hi : i < n) (hj : j < n)
    (h : o.place n i = o.place n j) : i = j := by
  cases o <;> simp only [ByteOrder.place] at h <;> omega

/-- The place of the byte that lies at a place is that place. -/
theorem ByteOrder.place_place (o : ByteOrder) (n i : Nat) (h : i < n) :
    o.place n (o.place n i) = i := by
  cases o <;> simp only [ByteOrder.place]
  omega

theorem recordBytes_length (r : Record) : (recordBytes r).length = 16 := by
  simp [recordBytes]

theorem fieldBytes_length (o : ByteOrder) (n : Nat) (v : BitVec (8 * n)) :
    (fieldBytes o n v).length = n := by
  simp [fieldBytes]

theorem fieldBytes_getD (o : ByteOrder) (n : Nat) (v : BitVec (8 * n)) (k : Nat) (h : k < n) :
    (fieldBytes o n v).getD k 0 = byteOf v (o.place n k) := by
  simp [fieldBytes, h]

/-- The bytes of a packed record are the bytes it was packed from. -/
theorem byteOf_packRecord (bytes : List Byte) (i : Nat) (h : i < 16) :
    byteOf (packRecord bytes) i = bytes.getD i 0 :=
  byteOf_assemble 16 _ i h

/-- A record is packed from its own bytes. -/
theorem packRecord_recordBytes (r : Record) : packRecord (recordBytes r) = r :=
  assemble_eq 16 _ r (fun i hi => by simp [recordBytes, hi])

end Sys2Proof
end

