-- ==== Sys2Proof/Laws/Decode.lean ====
section
/-! SUPPORT. The decoder says once what it can answer: the table search is the chain of equality tests of
30_encoding.md R94 and 41_decision_engine.md R151. -/

namespace Sys2Proof

theorem decodeStatus_eq (sw : Half) : decodeStatus sw =
    if sw = 0x1208 then .freset
    else if sw = 0x1250 then .shutdn
    else if sw = 0x1231 then .swon
    else if sw = 0x1233 then .enop
    else if sw = 0x1237 then .runa
    else if sw = 0x1637 then .runb
    else .keep sw := by
  have all : ∀ x : Half, x &&& 0xFFFF = x := fun x => by
    have := BitVec.and_allOnes (x := x)
    simpa using this
  have none : ∀ x : Half, x &&& 0x0000 = 0x0000 := fun x => by simp
  simp only [decodeStatus, sRows, firstRow, all, none]
  split_ifs <;> rfl

/-- A listed word is one of the six literals. -/
theorem listed_iff (sw : Half) : listedStatusWords.contains sw = true ↔
    sw = 0x1208 ∨ sw = 0x1250 ∨ sw = 0x1231 ∨ sw = 0x1233 ∨ sw = 0x1237 ∨ sw = 0x1637 := by
  simp [listedStatusWords]

/-- Every word that is not listed selects KEEP. -/
theorem decodeStatus_of_not_listed (sw : Half) (h : listedStatusWords.contains sw = false) :
    decodeStatus sw = .keep sw := by
  have hn : ¬ (listedStatusWords.contains sw = true) := fun e => Bool.noConfusion (h.symm.trans e)
  rw [listed_iff] at hn
  push Not at hn
  obtain ⟨h1, h2, h3, h4, h5, h6⟩ := hn
  rw [decodeStatus_eq, if_neg h1, if_neg h2, if_neg h3, if_neg h4, if_neg h5, if_neg h6]

/-- What the sequencer or the host executes next, case by case (40_cyclic_exchange.md R120, R127). -/
theorem selectOp_cases {x : Select} {i : Instr} (h : selectOp x = .ok i) :
    (x.stopReq = true ∧ i = .stopreq) ∨
    (x.stopReq = false ∧ x.phase = .idle ∧ x.start = true ∧ x.operational = true ∧ i = .start) ∨
    (x.stopReq = false ∧ x.phase = .idle ∧ x.start = true ∧ x.operational = false ∧ i = .sfail) ∨
    (x.stopReq = false ∧ x.phase = .run ∧ x.runFlag = true ∧ i = .cycle) ∨
    (x.stopReq = false ∧ x.phase = .run ∧ x.runFlag = false ∧ i = .stop) ∨
    (x.stopReq = false ∧ x.phase = .drain ∧ i = .drainc) := by
  rcases x with ⟨p, rf, st, op, sr⟩
  cases p <;> cases rf <;> cases st <;> cases op <;> cases sr <;>
    simp_all [selectOp, selectSequencer]

/-- When nothing is selected (40_cyclic_exchange.md R120). -/
theorem selectOp_error_cases {x : Select} {e : Reject} (h : selectOp x = .error e) :
    x.stopReq = false ∧
    ((x.phase = .idle ∧ x.start = false) ∨ x.phase = .halted ∨ x.phase = .failed) := by
  rcases x with ⟨p, rf, st, op, sr⟩
  cases p <;> cases rf <;> cases st <;> cases op <;> cases sr <;>
    simp_all [selectOp, selectSequencer]

end Sys2Proof
end

