-- ==== Sys2Proof/Laws/Memory.lean ====
section
/-! SUPPORT. The laws of a record's memory: a read after a write, the other bytes, and the canonical form.
They hold of every list of cells; only the canonical form needs a canonical memory. -/

namespace Sys2Proof.Machine

/-! ### One byte -/

@[simp] theorem Memory.get_nil (a : Nat) : Memory.get [] a = 0 := rfl

theorem Memory.get_erase (m : Memory) (a k : Nat) :
    (Memory.erase m a).get k = if k = a then 0 else m.get k := by
  induction m with
  | nil => simp [Memory.erase, Memory.get]
  | cons c rest ih =>
    by_cases hc : c.1 = a
    · by_cases hk : k = a
      · subst hk
        simpa [Memory.erase, hc] using ih
      · simp [Memory.erase, Memory.get, hc, ih, hk, Ne.symm hk]
    · by_cases hk : k = a
      · subst hk
        simp [Memory.erase, Memory.get, hc, ih]
      · simp [Memory.erase, Memory.get, hc, ih, hk]

theorem Memory.get_insert (m : Memory) (a : Nat) (b : Byte) (k : Nat)
    (hm : ∀ c ∈ m, c.1 ≠ a) :
    (Memory.insert m a b).get k = if k = a then b else m.get k := by
  induction m with
  | nil => simp [Memory.insert, Memory.get, eq_comm]
  | cons c rest ih =>
    have hc : c.1 ≠ a := hm c (by simp)
    have hr := ih (fun d hd => hm d (by simp [hd]))
    by_cases hlt : a < c.1
    · simp [Memory.insert, Memory.get, hlt, eq_comm]
    · by_cases hk : k = a
      · subst hk
        simp [Memory.insert, Memory.get, hlt, hr, hc]
      · simp [Memory.insert, Memory.get, hlt, hr, hk]

theorem Memory.mem_erase (m : Memory) (a : Nat) : ∀ c ∈ Memory.erase m a, c.1 ≠ a := by
  induction m with
  | nil => simp [Memory.erase]
  | cons c rest ih =>
    by_cases hc : c.1 = a
    · simpa [Memory.erase, hc] using ih
    · intro d hd
      simp [Memory.erase, hc] at hd
      rcases hd with rfl | hd
      · exact hc
      · exact ih d hd

/-- Reading any byte after writing one: the written one reads as written, every other as before. -/
theorem Memory.get_set (m : Memory) (a : Nat) (b : Byte) (k : Nat) :
    (m.set a b).get k = if k = a then b else m.get k := by
  unfold Memory.set
  split
  · next hb => rw [Memory.get_erase, hb]
  · rw [Memory.get_insert _ _ _ _ (Memory.mem_erase m a), Memory.get_erase]
    split <;> rfl

/-! ### Many bytes -/

/-- An offset that no stored byte goes to reads as before. -/
theorem Memory.get_store_other (m : Memory) (at_ : Nat → Nat) (f : Nat → Byte) (n k : Nat)
    (h : ∀ i, i < n → at_ i ≠ k) : (m.store at_ f n).get k = m.get k := by
  induction n with
  | zero => rfl
  | succ n ih =>
    rw [Memory.store, Memory.get_set, if_neg (fun e => h n (by omega) e.symm)]
    exact ih (fun i hi => h i (by omega))

/-- A stored byte reads as stored, where no two go to one offset. -/
theorem Memory.get_store_same (m : Memory) (at_ : Nat → Nat) (f : Nat → Byte) (n i : Nat) (hi : i < n)
    (hinj : ∀ j k, j < n → k < n → at_ j = at_ k → j = k) :
    (m.store at_ f n).get (at_ i) = f i := by
  induction n with
  | zero => omega
  | succ n ih =>
    rw [Memory.store, Memory.get_set]
    split
    · next e => rw [hinj i n hi (by omega) e]
    · next e =>
      have hne : i ≠ n := fun he => e (by rw [he])
      exact ih (by omega) (fun j k hj hk => hinj j k (by omega) (by omega))

/-- A byte outside a written field reads as before. -/
theorem Memory.get_write_other (o : ByteOrder) (m : Memory) (off n : Nat) (v : BitVec (8 * n)) (k : Nat)
    (h : k < off ∨ off + n ≤ k) : (m.write o off n v).get k = m.get k :=
  Memory.get_store_other m _ _ n k (fun i hi e => by
    have := o.place_lt n i hi
    omega)

/-- A byte of a written field reads as the byte of the value that lies there. -/
theorem Memory.get_write_same (o : ByteOrder) (m : Memory) (off n : Nat) (v : BitVec (8 * n)) (i : Nat)
    (hi : i < n) : (m.write o off n v).get (off + o.place n i) = byteOf v i :=
  Memory.get_store_same m (fun i => off + o.place n i) (byteOf v) n i hi
    (fun j k hj hk e => o.place_inj n j k hj hk (by omega))

/-- A field read after it was written is the value written. -/
theorem Memory.read_write_same (o : ByteOrder) (m : Memory) (off n : Nat) (v : BitVec (8 * n)) :
    (m.write o off n v).read o off n = v :=
  assemble_eq n _ v (fun i hi => Memory.get_write_same o m off n v i hi)

/-- A field read after another, disjoint field was written is what it was. -/
theorem Memory.read_write_other (o : ByteOrder) (m : Memory) (off n : Nat) (v : BitVec (8 * n))
    (off' n' : Nat) (h : off' + n' ≤ off ∨ off + n ≤ off') :
    (m.write o off n v).read o off' n' = m.read o off' n' :=
  assemble_congr n' _ _ (fun i hi => Memory.get_write_other o m off n v _ (by
    have := o.place_lt n' i hi
    omega))

/-- A field of the memory that lists nothing is 0. -/
theorem Memory.read_nil (o : ByteOrder) (off n : Nat) : Memory.read o [] off n = 0 :=
  assemble_eq n _ 0 (fun i _ => by simp [Memory.get, byteOf])

/-! ### Whole records -/

/-- A byte of the memory of a record is that byte of the record; there is nothing at or above 16. -/
theorem Memory.get_ofRecord (r : Record) (k : Nat) :
    (Memory.ofRecord r).get k = if k < 16 then byteOf r k else 0 := by
  unfold Memory.ofRecord
  split
  · next h =>
    exact Memory.get_store_same [] id (byteOf r) 16 k h (fun j k _ _ e => e)
  · next h =>
    rw [Memory.get_store_other [] id (byteOf r) 16 k (fun i hi e => h (by simpa [← e] using hi))]
    rfl

/-- Byte `k` of a memory's record. -/
theorem Memory.byteOf_toRecord (m : Memory) (k : Nat) (h : k < 16) : byteOf m.toRecord k = m.get k :=
  byteOf_assemble 16 m.get k h

/-- A record stored and read back as a whole. -/
theorem Memory.toRecord_ofRecord (r : Record) : (Memory.ofRecord r).toRecord = r :=
  assemble_eq 16 _ r (fun i hi => by rw [Memory.get_ofRecord, if_pos hi])

/-- A field of a stored record is that field of the record. -/
theorem Memory.read_ofRecord (o : ByteOrder) (r : Record) (off n : Nat) (h : off + n ≤ 16) :
    (Memory.ofRecord r).read o off n = fieldOf o r off n :=
  assemble_congr n _ _ (fun i hi => by
    have := o.place_lt n i hi
    rw [Memory.get_ofRecord, if_pos (by omega)])

/-- A field of a memory is that field of its record. -/
theorem Memory.fieldOf_toRecord (o : ByteOrder) (m : Memory) (off n : Nat) (h : off + n ≤ 16) :
    fieldOf o m.toRecord off n = m.read o off n :=
  assemble_congr n _ _ (fun i hi => by
    have := o.place_lt n i hi
    rw [Memory.byteOf_toRecord m _ (by omega)])

/-- The bytes of a memory are the bytes of its record. -/
theorem Memory.bytes_eq (m : Memory) : m.bytes = recordBytes m.toRecord := by
  unfold Memory.bytes recordBytes
  apply List.map_congr_left
  intro i hi
  exact (Memory.byteOf_toRecord m i (by simpa using hi)).symm

/-! ### The canonical form -/

theorem Memory.wfFrom_mono {lo hi : Nat} (h : lo ≤ hi) {m : Memory} (hm : Memory.wfFrom hi m = true) :
    Memory.wfFrom lo m = true := by
  cases m with
  | nil => rfl
  | cons c rest =>
    simp only [Memory.wfFrom, Bool.and_eq_true, decide_eq_true_eq] at hm ⊢
    exact ⟨⟨⟨by omega, hm.1.1.2⟩, hm.1.2⟩, hm.2⟩

theorem Memory.wfFrom_erase {lo : Nat} {m : Memory} (a : Nat) (hm : Memory.wfFrom lo m = true) :
    Memory.wfFrom lo (Memory.erase m a) = true := by
  induction m generalizing lo with
  | nil => rfl
  | cons c rest ih =>
    simp only [Memory.wfFrom, Bool.and_eq_true, decide_eq_true_eq] at hm
    unfold Memory.erase
    split
    · exact ih (Memory.wfFrom_mono (by omega) hm.2)
    · simp only [Memory.wfFrom, Bool.and_eq_true, decide_eq_true_eq]
      exact ⟨hm.1, ih hm.2⟩

theorem Memory.wfFrom_insert {lo : Nat} {m : Memory} (a : Nat) (b : Byte) (ha : a < 16) (hb : b ≠ 0)
    (hlo : lo ≤ a) (hm : Memory.wfFrom lo m = true) (hne : ∀ c ∈ m, c.1 ≠ a) :
    Memory.wfFrom lo (Memory.insert m a b) = true := by
  induction m generalizing lo with
  | nil =>
    simp only [Memory.insert, Memory.wfFrom, Bool.and_eq_true, decide_eq_true_eq]
    exact ⟨⟨⟨hlo, ha⟩, hb⟩, trivial⟩
  | cons c rest ih =>
    have hca : c.1 ≠ a := hne c (by simp)
    simp only [Memory.wfFrom, Bool.and_eq_true, decide_eq_true_eq] at hm
    unfold Memory.insert
    split
    · next hlt =>
      simp only [Memory.wfFrom, Bool.and_eq_true, decide_eq_true_eq]
      exact ⟨⟨⟨hlo, ha⟩, hb⟩, ⟨⟨by omega, hm.1.1.2⟩, hm.1.2⟩, hm.2⟩
    · next hlt =>
      simp only [Memory.wfFrom, Bool.and_eq_true, decide_eq_true_eq]
      exact ⟨hm.1, ih (by omega) hm.2 (fun d hd => hne d (by simp [hd]))⟩

/-- Writing a byte inside the record keeps the canonical form. -/
theorem Memory.wf_set {m : Memory} (a : Nat) (b : Byte) (ha : a < 16) (hm : m.wf = true) :
    (m.set a b).wf = true := by
  unfold Memory.set
  split
  · exact Memory.wfFrom_erase a hm
  · next hb =>
    exact Memory.wfFrom_insert a b ha hb (Nat.zero_le _) (Memory.wfFrom_erase a hm)
      (Memory.mem_erase m a)

theorem Memory.wf_store {m : Memory} (at_ : Nat → Nat) (f : Nat → Byte) (n : Nat)
    (hat : ∀ i, i < n → at_ i < 16) (hm : m.wf = true) : (m.store at_ f n).wf = true := by
  induction n with
  | zero => exact hm
  | succ n ih => exact Memory.wf_set _ _ (hat n (by omega)) (ih (fun i hi => hat i (by omega)))

/-- Writing a field inside the record keeps the canonical form. -/
theorem Memory.wf_write {m : Memory} (o : ByteOrder) (off n : Nat) (v : BitVec (8 * n))
    (h : off + n ≤ 16) (hm : m.wf = true) : (m.write o off n v).wf = true :=
  Memory.wf_store _ _ n (fun i hi => by
    have := o.place_lt n i hi
    omega) hm

/-- The memory of a record is canonical. -/
theorem Memory.wf_ofRecord (r : Record) : (Memory.ofRecord r).wf = true :=
  Memory.wf_store _ _ 16 (fun _ hi => hi) rfl

theorem Memory.get_of_wfFrom {lo : Nat} {m : Memory} (hm : Memory.wfFrom lo m = true) (k : Nat)
    (hk : k < lo ∨ 16 ≤ k) : m.get k = 0 := by
  induction m generalizing lo with
  | nil => rfl
  | cons c rest ih =>
    simp only [Memory.wfFrom, Bool.and_eq_true, decide_eq_true_eq] at hm
    rw [Memory.get, if_neg (by omega)]
    exact ih hm.2 (by omega)

/-- Canonical memories that read alike are equal. -/
theorem Memory.ext_of_wfFrom {lo : Nat} {m m' : Memory} (hm : Memory.wfFrom lo m = true)
    (hm' : Memory.wfFrom lo m' = true) (h : ∀ k, m.get k = m'.get k) : m = m' := by
  induction m generalizing lo m' with
  | nil =>
    cases m' with
    | nil => rfl
    | cons c' rest' =>
      simp only [Memory.wfFrom, Bool.and_eq_true, decide_eq_true_eq] at hm'
      have := h c'.1
      simp only [Memory.get, if_true] at this
      exact absurd this.symm hm'.1.2
  | cons c rest ih =>
    have hc := hm
    simp only [Memory.wfFrom, Bool.and_eq_true, decide_eq_true_eq] at hm
    cases m' with
    | nil =>
      have := h c.1
      simp only [Memory.get, if_true] at this
      exact absurd this hm.1.2
    | cons c' rest' =>
      have hc' := hm'
      simp only [Memory.wfFrom, Bool.and_eq_true, decide_eq_true_eq] at hm'
      have hk : c.1 = c'.1 := by
        rcases Nat.lt_trichotomy c.1 c'.1 with hlt | heq | hgt
        · have e := h c.1
          rw [Memory.get, if_pos rfl, Memory.get, if_neg (by omega),
            Memory.get_of_wfFrom hm'.2 c.1 (by omega)] at e
          exact absurd e hm.1.2
        · exact heq
        · have e := h c'.1
          rw [Memory.get, if_neg (by omega), Memory.get_of_wfFrom hm.2 c'.1 (by omega), Memory.get,
            if_pos rfl] at e
          exact absurd e.symm hm'.1.2
      have hv : c.2 = c'.2 := by
        have e := h c.1
        rwa [Memory.get, if_pos rfl, Memory.get, if_pos hk.symm] at e
      have hcc : c = c' := Prod.ext hk hv
      subst hcc
      congr 1
      apply ih hm.2 hm'.2
      intro k
      by_cases hkc : k < c.1 + 1
      · rw [Memory.get_of_wfFrom hm.2 k (Or.inl hkc), Memory.get_of_wfFrom hm'.2 k (Or.inl hkc)]
      · have e := h k
        rwa [Memory.get, if_neg (by omega), Memory.get, if_neg (by omega)] at e

theorem Memory.ext_of_wf {m m' : Memory} (hm : m.wf = true) (hm' : m'.wf = true)
    (h : ∀ k, m.get k = m'.get k) : m = m' :=
  Memory.ext_of_wfFrom hm hm' h

end Sys2Proof.Machine
end

