-- ==== Sys2Proof/Laws/State.lean ====
section
/-! SUPPORT. One lemma per field per update of the state: what each named operation leaves in each field. -/

namespace Sys2Proof.Machine

variable (s : State)

@[simp] theorem State.clearStrobes_phase : (s.clearStrobes).phase = s.phase := rfl
@[simp] theorem State.clearStrobes_drainCount : (s.clearStrobes).drainCount = s.drainCount := rfl
@[simp] theorem State.clearStrobes_cycleCount : (s.clearStrobes).cycleCount = s.cycleCount := rfl
@[simp] theorem State.clearStrobes_tvSet : (s.clearStrobes).tvSet = s.tvSet := rfl
@[simp] theorem State.clearStrobes_startPos : (s.clearStrobes).startPos = s.startPos := rfl
@[simp] theorem State.clearStrobes_wkc : (s.clearStrobes).wkc = s.wkc := rfl
@[simp] theorem State.clearStrobes_motorEnabled : (s.clearStrobes).motorEnabled = s.motorEnabled := rfl
@[simp] theorem State.clearStrobes_runFlag : (s.clearStrobes).runFlag = s.runFlag := rfl
@[simp] theorem State.clearStrobes_outRec : (s.clearStrobes).outRec = s.outRec := rfl
@[simp] theorem State.clearStrobes_inRec : (s.clearStrobes).inRec = s.inRec := rfl
@[simp] theorem State.clearStrobes_enableEvt : (s.clearStrobes).enableEvt = false := rfl
@[simp] theorem State.clearStrobes_report : (s.clearStrobes).report = false := rfl
@[simp] theorem State.clearStrobes_exOut : (s.clearStrobes).exOut = s.exOut := rfl
@[simp] theorem State.clearStrobes_params : (s.clearStrobes).params = s.params := rfl
@[simp] theorem State.clearStrobes_pending : (s.clearStrobes).pending = s.pending := rfl
@[simp] theorem State.clearStrobes_draws : (s.clearStrobes).draws = s.draws := rfl
@[simp] theorem State.clearStrobes_input : (s.clearStrobes).input = s.input := rfl

@[simp] theorem State.beginStep_phase : (s.beginStep).phase = s.phase := rfl
@[simp] theorem State.beginStep_drainCount : (s.beginStep).drainCount = s.drainCount := rfl
@[simp] theorem State.beginStep_cycleCount : (s.beginStep).cycleCount = s.cycleCount := rfl
@[simp] theorem State.beginStep_tvSet : (s.beginStep).tvSet = s.tvSet := rfl
@[simp] theorem State.beginStep_startPos : (s.beginStep).startPos = s.startPos := rfl
@[simp] theorem State.beginStep_wkc : (s.beginStep).wkc = s.wkc := rfl
@[simp] theorem State.beginStep_motorEnabled : (s.beginStep).motorEnabled = s.motorEnabled := rfl
@[simp] theorem State.beginStep_runFlag : (s.beginStep).runFlag = s.runFlag := rfl
@[simp] theorem State.beginStep_outRec : (s.beginStep).outRec = s.outRec := rfl
@[simp] theorem State.beginStep_inRec : (s.beginStep).inRec = s.inRec := rfl
@[simp] theorem State.beginStep_enableEvt : (s.beginStep).enableEvt = false := rfl
@[simp] theorem State.beginStep_report : (s.beginStep).report = false := rfl
@[simp] theorem State.beginStep_exOut : (s.beginStep).exOut = none := rfl
@[simp] theorem State.beginStep_params : (s.beginStep).params = s.params := rfl
@[simp] theorem State.beginStep_pending : (s.beginStep).pending = s.pending := rfl
@[simp] theorem State.beginStep_draws : (s.beginStep).draws = s.draws := rfl
@[simp] theorem State.beginStep_input : (s.beginStep).input = s.input := rfl

@[simp] theorem State.setControlWord_phase (cw : Half) : (s.setControlWord cw).phase = s.phase := rfl
@[simp] theorem State.setControlWord_drainCount (cw : Half) : (s.setControlWord cw).drainCount = s.drainCount := rfl
@[simp] theorem State.setControlWord_cycleCount (cw : Half) : (s.setControlWord cw).cycleCount = s.cycleCount := rfl
@[simp] theorem State.setControlWord_tvSet (cw : Half) : (s.setControlWord cw).tvSet = s.tvSet := rfl
@[simp] theorem State.setControlWord_startPos (cw : Half) : (s.setControlWord cw).startPos = s.startPos := rfl
@[simp] theorem State.setControlWord_wkc (cw : Half) : (s.setControlWord cw).wkc = s.wkc := rfl
@[simp] theorem State.setControlWord_motorEnabled (cw : Half) : (s.setControlWord cw).motorEnabled = s.motorEnabled := rfl
@[simp] theorem State.setControlWord_runFlag (cw : Half) : (s.setControlWord cw).runFlag = s.runFlag := rfl
@[simp] theorem State.setControlWord_outRec (cw : Half) : (s.setControlWord cw).outRec = s.outRec.write Config.byteOrder 0 2 cw := rfl
@[simp] theorem State.setControlWord_inRec (cw : Half) : (s.setControlWord cw).inRec = s.inRec := rfl
@[simp] theorem State.setControlWord_enableEvt (cw : Half) : (s.setControlWord cw).enableEvt = s.enableEvt := rfl
@[simp] theorem State.setControlWord_report (cw : Half) : (s.setControlWord cw).report = s.report := rfl
@[simp] theorem State.setControlWord_exOut (cw : Half) : (s.setControlWord cw).exOut = s.exOut := rfl
@[simp] theorem State.setControlWord_params (cw : Half) : (s.setControlWord cw).params = s.params := rfl
@[simp] theorem State.setControlWord_pending (cw : Half) : (s.setControlWord cw).pending = s.pending := rfl
@[simp] theorem State.setControlWord_draws (cw : Half) : (s.setControlWord cw).draws = s.draws := rfl
@[simp] theorem State.setControlWord_input (cw : Half) : (s.setControlWord cw).input = s.input := rfl

@[simp] theorem State.setTargetVelocity_phase (tv : Word) : (s.setTargetVelocity tv).phase = s.phase := rfl
@[simp] theorem State.setTargetVelocity_drainCount (tv : Word) : (s.setTargetVelocity tv).drainCount = s.drainCount := rfl
@[simp] theorem State.setTargetVelocity_cycleCount (tv : Word) : (s.setTargetVelocity tv).cycleCount = s.cycleCount := rfl
@[simp] theorem State.setTargetVelocity_tvSet (tv : Word) : (s.setTargetVelocity tv).tvSet = s.tvSet := rfl
@[simp] theorem State.setTargetVelocity_startPos (tv : Word) : (s.setTargetVelocity tv).startPos = s.startPos := rfl
@[simp] theorem State.setTargetVelocity_wkc (tv : Word) : (s.setTargetVelocity tv).wkc = s.wkc := rfl
@[simp] theorem State.setTargetVelocity_motorEnabled (tv : Word) : (s.setTargetVelocity tv).motorEnabled = s.motorEnabled := rfl
@[simp] theorem State.setTargetVelocity_runFlag (tv : Word) : (s.setTargetVelocity tv).runFlag = s.runFlag := rfl
@[simp] theorem State.setTargetVelocity_outRec (tv : Word) : (s.setTargetVelocity tv).outRec = s.outRec.write Config.byteOrder 6 4 tv := rfl
@[simp] theorem State.setTargetVelocity_inRec (tv : Word) : (s.setTargetVelocity tv).inRec = s.inRec := rfl
@[simp] theorem State.setTargetVelocity_enableEvt (tv : Word) : (s.setTargetVelocity tv).enableEvt = s.enableEvt := rfl
@[simp] theorem State.setTargetVelocity_report (tv : Word) : (s.setTargetVelocity tv).report = s.report := rfl
@[simp] theorem State.setTargetVelocity_exOut (tv : Word) : (s.setTargetVelocity tv).exOut = s.exOut := rfl
@[simp] theorem State.setTargetVelocity_params (tv : Word) : (s.setTargetVelocity tv).params = s.params := rfl
@[simp] theorem State.setTargetVelocity_pending (tv : Word) : (s.setTargetVelocity tv).pending = s.pending := rfl
@[simp] theorem State.setTargetVelocity_draws (tv : Word) : (s.setTargetVelocity tv).draws = s.draws := rfl
@[simp] theorem State.setTargetVelocity_input (tv : Word) : (s.setTargetVelocity tv).input = s.input := rfl

@[simp] theorem State.setMaxTorque_phase (t : Half) : (s.setMaxTorque t).phase = s.phase := rfl
@[simp] theorem State.setMaxTorque_drainCount (t : Half) : (s.setMaxTorque t).drainCount = s.drainCount := rfl
@[simp] theorem State.setMaxTorque_cycleCount (t : Half) : (s.setMaxTorque t).cycleCount = s.cycleCount := rfl
@[simp] theorem State.setMaxTorque_tvSet (t : Half) : (s.setMaxTorque t).tvSet = s.tvSet := rfl
@[simp] theorem State.setMaxTorque_startPos (t : Half) : (s.setMaxTorque t).startPos = s.startPos := rfl
@[simp] theorem State.setMaxTorque_wkc (t : Half) : (s.setMaxTorque t).wkc = s.wkc := rfl
@[simp] theorem State.setMaxTorque_motorEnabled (t : Half) : (s.setMaxTorque t).motorEnabled = s.motorEnabled := rfl
@[simp] theorem State.setMaxTorque_runFlag (t : Half) : (s.setMaxTorque t).runFlag = s.runFlag := rfl
@[simp] theorem State.setMaxTorque_outRec (t : Half) : (s.setMaxTorque t).outRec = s.outRec.write Config.byteOrder 12 2 t := rfl
@[simp] theorem State.setMaxTorque_inRec (t : Half) : (s.setMaxTorque t).inRec = s.inRec := rfl
@[simp] theorem State.setMaxTorque_enableEvt (t : Half) : (s.setMaxTorque t).enableEvt = s.enableEvt := rfl
@[simp] theorem State.setMaxTorque_report (t : Half) : (s.setMaxTorque t).report = s.report := rfl
@[simp] theorem State.setMaxTorque_exOut (t : Half) : (s.setMaxTorque t).exOut = s.exOut := rfl
@[simp] theorem State.setMaxTorque_params (t : Half) : (s.setMaxTorque t).params = s.params := rfl
@[simp] theorem State.setMaxTorque_pending (t : Half) : (s.setMaxTorque t).pending = s.pending := rfl
@[simp] theorem State.setMaxTorque_draws (t : Half) : (s.setMaxTorque t).draws = s.draws := rfl
@[simp] theorem State.setMaxTorque_input (t : Half) : (s.setMaxTorque t).input = s.input := rfl

@[simp] theorem State.setOperatingMode_phase (m : Byte) : (s.setOperatingMode m).phase = s.phase := rfl
@[simp] theorem State.setOperatingMode_drainCount (m : Byte) : (s.setOperatingMode m).drainCount = s.drainCount := rfl
@[simp] theorem State.setOperatingMode_cycleCount (m : Byte) : (s.setOperatingMode m).cycleCount = s.cycleCount := rfl
@[simp] theorem State.setOperatingMode_tvSet (m : Byte) : (s.setOperatingMode m).tvSet = s.tvSet := rfl
@[simp] theorem State.setOperatingMode_startPos (m : Byte) : (s.setOperatingMode m).startPos = s.startPos := rfl
@[simp] theorem State.setOperatingMode_wkc (m : Byte) : (s.setOperatingMode m).wkc = s.wkc := rfl
@[simp] theorem State.setOperatingMode_motorEnabled (m : Byte) : (s.setOperatingMode m).motorEnabled = s.motorEnabled := rfl
@[simp] theorem State.setOperatingMode_runFlag (m : Byte) : (s.setOperatingMode m).runFlag = s.runFlag := rfl
@[simp] theorem State.setOperatingMode_outRec (m : Byte) : (s.setOperatingMode m).outRec = s.outRec.write Config.byteOrder 14 1 m := rfl
@[simp] theorem State.setOperatingMode_inRec (m : Byte) : (s.setOperatingMode m).inRec = s.inRec := rfl
@[simp] theorem State.setOperatingMode_enableEvt (m : Byte) : (s.setOperatingMode m).enableEvt = s.enableEvt := rfl
@[simp] theorem State.setOperatingMode_report (m : Byte) : (s.setOperatingMode m).report = s.report := rfl
@[simp] theorem State.setOperatingMode_exOut (m : Byte) : (s.setOperatingMode m).exOut = s.exOut := rfl
@[simp] theorem State.setOperatingMode_params (m : Byte) : (s.setOperatingMode m).params = s.params := rfl
@[simp] theorem State.setOperatingMode_pending (m : Byte) : (s.setOperatingMode m).pending = s.pending := rfl
@[simp] theorem State.setOperatingMode_draws (m : Byte) : (s.setOperatingMode m).draws = s.draws := rfl
@[simp] theorem State.setOperatingMode_input (m : Byte) : (s.setOperatingMode m).input = s.input := rfl

@[simp] theorem State.command_phase (cw : Half) (tv : Word) : (s.command cw tv).phase = s.phase := rfl
@[simp] theorem State.command_drainCount (cw : Half) (tv : Word) : (s.command cw tv).drainCount = s.drainCount := rfl
@[simp] theorem State.command_cycleCount (cw : Half) (tv : Word) : (s.command cw tv).cycleCount = s.cycleCount := rfl
@[simp] theorem State.command_tvSet (cw : Half) (tv : Word) : (s.command cw tv).tvSet = s.tvSet := rfl
@[simp] theorem State.command_startPos (cw : Half) (tv : Word) : (s.command cw tv).startPos = s.startPos := rfl
@[simp] theorem State.command_wkc (cw : Half) (tv : Word) : (s.command cw tv).wkc = s.wkc := rfl
@[simp] theorem State.command_motorEnabled (cw : Half) (tv : Word) : (s.command cw tv).motorEnabled = s.motorEnabled := rfl
@[simp] theorem State.command_runFlag (cw : Half) (tv : Word) : (s.command cw tv).runFlag = s.runFlag := rfl
@[simp] theorem State.command_inRec (cw : Half) (tv : Word) : (s.command cw tv).inRec = s.inRec := rfl
@[simp] theorem State.command_enableEvt (cw : Half) (tv : Word) : (s.command cw tv).enableEvt = s.enableEvt := rfl
@[simp] theorem State.command_report (cw : Half) (tv : Word) : (s.command cw tv).report = s.report := rfl
@[simp] theorem State.command_exOut (cw : Half) (tv : Word) : (s.command cw tv).exOut = s.exOut := rfl
@[simp] theorem State.command_params (cw : Half) (tv : Word) : (s.command cw tv).params = s.params := rfl
@[simp] theorem State.command_pending (cw : Half) (tv : Word) : (s.command cw tv).pending = s.pending := rfl
@[simp] theorem State.command_draws (cw : Half) (tv : Word) : (s.command cw tv).draws = s.draws := rfl
@[simp] theorem State.command_input (cw : Half) (tv : Word) : (s.command cw tv).input = s.input := rfl

@[simp] theorem State.reassert_phase : (s.reassert).phase = s.phase := rfl
@[simp] theorem State.reassert_drainCount : (s.reassert).drainCount = s.drainCount := rfl
@[simp] theorem State.reassert_cycleCount : (s.reassert).cycleCount = s.cycleCount := rfl
@[simp] theorem State.reassert_tvSet : (s.reassert).tvSet = s.tvSet := rfl
@[simp] theorem State.reassert_startPos : (s.reassert).startPos = s.startPos := rfl
@[simp] theorem State.reassert_wkc : (s.reassert).wkc = s.wkc := rfl
@[simp] theorem State.reassert_motorEnabled : (s.reassert).motorEnabled = s.motorEnabled := rfl
@[simp] theorem State.reassert_runFlag : (s.reassert).runFlag = s.runFlag := rfl
@[simp] theorem State.reassert_inRec : (s.reassert).inRec = s.inRec := rfl
@[simp] theorem State.reassert_enableEvt : (s.reassert).enableEvt = s.enableEvt := rfl
@[simp] theorem State.reassert_report : (s.reassert).report = s.report := rfl
@[simp] theorem State.reassert_exOut : (s.reassert).exOut = s.exOut := rfl
@[simp] theorem State.reassert_params : (s.reassert).params = s.params := rfl
@[simp] theorem State.reassert_pending : (s.reassert).pending = s.pending := rfl
@[simp] theorem State.reassert_draws : (s.reassert).draws = s.draws := rfl
@[simp] theorem State.reassert_input : (s.reassert).input = s.input := rfl

@[simp] theorem State.zeroCommand_phase : (s.zeroCommand).phase = s.phase := rfl
@[simp] theorem State.zeroCommand_drainCount : (s.zeroCommand).drainCount = s.drainCount := rfl
@[simp] theorem State.zeroCommand_cycleCount : (s.zeroCommand).cycleCount = s.cycleCount := rfl
@[simp] theorem State.zeroCommand_tvSet : (s.zeroCommand).tvSet = s.tvSet := rfl
@[simp] theorem State.zeroCommand_startPos : (s.zeroCommand).startPos = s.startPos := rfl
@[simp] theorem State.zeroCommand_wkc : (s.zeroCommand).wkc = s.wkc := rfl
@[simp] theorem State.zeroCommand_motorEnabled : (s.zeroCommand).motorEnabled = s.motorEnabled := rfl
@[simp] theorem State.zeroCommand_runFlag : (s.zeroCommand).runFlag = s.runFlag := rfl
@[simp] theorem State.zeroCommand_inRec : (s.zeroCommand).inRec = s.inRec := rfl
@[simp] theorem State.zeroCommand_enableEvt : (s.zeroCommand).enableEvt = s.enableEvt := rfl
@[simp] theorem State.zeroCommand_report : (s.zeroCommand).report = s.report := rfl
@[simp] theorem State.zeroCommand_exOut : (s.zeroCommand).exOut = s.exOut := rfl
@[simp] theorem State.zeroCommand_params : (s.zeroCommand).params = s.params := rfl
@[simp] theorem State.zeroCommand_pending : (s.zeroCommand).pending = s.pending := rfl
@[simp] theorem State.zeroCommand_draws : (s.zeroCommand).draws = s.draws := rfl
@[simp] theorem State.zeroCommand_input : (s.zeroCommand).input = s.input := rfl

@[simp] theorem State.exchange_phase (r : Resp) : (s.exchange r).phase = s.phase := rfl
@[simp] theorem State.exchange_drainCount (r : Resp) : (s.exchange r).drainCount = s.drainCount := rfl
@[simp] theorem State.exchange_cycleCount (r : Resp) : (s.exchange r).cycleCount = s.cycleCount := rfl
@[simp] theorem State.exchange_tvSet (r : Resp) : (s.exchange r).tvSet = s.tvSet := rfl
@[simp] theorem State.exchange_startPos (r : Resp) : (s.exchange r).startPos = s.startPos := rfl
@[simp] theorem State.exchange_wkc (r : Resp) : (s.exchange r).wkc = r.wkc := rfl
@[simp] theorem State.exchange_motorEnabled (r : Resp) : (s.exchange r).motorEnabled = s.motorEnabled := rfl
@[simp] theorem State.exchange_runFlag (r : Resp) : (s.exchange r).runFlag = s.runFlag := rfl
@[simp] theorem State.exchange_outRec (r : Resp) : (s.exchange r).outRec = s.outRec := rfl
@[simp] theorem State.exchange_enableEvt (r : Resp) : (s.exchange r).enableEvt = s.enableEvt := rfl
@[simp] theorem State.exchange_report (r : Resp) : (s.exchange r).report = s.report := rfl
@[simp] theorem State.exchange_exOut (r : Resp) : (s.exchange r).exOut = some s.outRec.toRecord := rfl
@[simp] theorem State.exchange_params (r : Resp) : (s.exchange r).params = s.params := rfl
@[simp] theorem State.exchange_pending (r : Resp) : (s.exchange r).pending = s.pending := rfl
@[simp] theorem State.exchange_draws (r : Resp) : (s.exchange r).draws = s.draws := rfl
@[simp] theorem State.exchange_input (r : Resp) : (s.exchange r).input = s.input := rfl

@[simp] theorem State.latch_phase : (s.latch).phase = s.phase := rfl
@[simp] theorem State.latch_drainCount : (s.latch).drainCount = s.drainCount := rfl
@[simp] theorem State.latch_cycleCount : (s.latch).cycleCount = s.cycleCount := rfl
@[simp] theorem State.latch_tvSet : (s.latch).tvSet = s.tvSet := rfl
@[simp] theorem State.latch_startPos : (s.latch).startPos = if s.motorEnabled then s.startPos else s.actualPosition := rfl
@[simp] theorem State.latch_wkc : (s.latch).wkc = s.wkc := rfl
@[simp] theorem State.latch_motorEnabled : (s.latch).motorEnabled = true := rfl
@[simp] theorem State.latch_runFlag : (s.latch).runFlag = s.runFlag := rfl
@[simp] theorem State.latch_outRec : (s.latch).outRec = s.outRec := rfl
@[simp] theorem State.latch_inRec : (s.latch).inRec = s.inRec := rfl
@[simp] theorem State.latch_enableEvt : (s.latch).enableEvt = if s.motorEnabled then s.enableEvt else true := rfl
@[simp] theorem State.latch_report : (s.latch).report = s.report := rfl
@[simp] theorem State.latch_exOut : (s.latch).exOut = s.exOut := rfl
@[simp] theorem State.latch_params : (s.latch).params = s.params := rfl
@[simp] theorem State.latch_pending : (s.latch).pending = s.pending := rfl
@[simp] theorem State.latch_draws : (s.latch).draws = s.draws := rfl
@[simp] theorem State.latch_input : (s.latch).input = s.input := rfl

@[simp] theorem State.countCycle_phase : (s.countCycle).phase = s.phase := rfl
@[simp] theorem State.countCycle_drainCount : (s.countCycle).drainCount = s.drainCount := rfl
@[simp] theorem State.countCycle_cycleCount : (s.countCycle).cycleCount = s.cycleCount + 1 := rfl
@[simp] theorem State.countCycle_tvSet : (s.countCycle).tvSet = s.tvSet := rfl
@[simp] theorem State.countCycle_startPos : (s.countCycle).startPos = s.startPos := rfl
@[simp] theorem State.countCycle_wkc : (s.countCycle).wkc = s.wkc := rfl
@[simp] theorem State.countCycle_motorEnabled : (s.countCycle).motorEnabled = s.motorEnabled := rfl
@[simp] theorem State.countCycle_runFlag : (s.countCycle).runFlag = s.runFlag := rfl
@[simp] theorem State.countCycle_outRec : (s.countCycle).outRec = s.outRec := rfl
@[simp] theorem State.countCycle_inRec : (s.countCycle).inRec = s.inRec := rfl
@[simp] theorem State.countCycle_enableEvt : (s.countCycle).enableEvt = s.enableEvt := rfl
@[simp] theorem State.countCycle_exOut : (s.countCycle).exOut = s.exOut := rfl
@[simp] theorem State.countCycle_params : (s.countCycle).params = s.params := rfl
@[simp] theorem State.countCycle_pending : (s.countCycle).pending = s.pending := rfl
@[simp] theorem State.countCycle_draws : (s.countCycle).draws = s.draws := rfl
@[simp] theorem State.countCycle_input : (s.countCycle).input = s.input := rfl

@[simp] theorem State.countDrain_drainCount : (s.countDrain).drainCount = s.drainCount + 1 := rfl
@[simp] theorem State.countDrain_cycleCount : (s.countDrain).cycleCount = s.cycleCount := rfl
@[simp] theorem State.countDrain_tvSet : (s.countDrain).tvSet = s.tvSet := rfl
@[simp] theorem State.countDrain_startPos : (s.countDrain).startPos = s.startPos := rfl
@[simp] theorem State.countDrain_wkc : (s.countDrain).wkc = s.wkc := rfl
@[simp] theorem State.countDrain_motorEnabled : (s.countDrain).motorEnabled = s.motorEnabled := rfl
@[simp] theorem State.countDrain_runFlag : (s.countDrain).runFlag = s.runFlag := rfl
@[simp] theorem State.countDrain_outRec : (s.countDrain).outRec = s.outRec := rfl
@[simp] theorem State.countDrain_inRec : (s.countDrain).inRec = s.inRec := rfl
@[simp] theorem State.countDrain_enableEvt : (s.countDrain).enableEvt = s.enableEvt := rfl
@[simp] theorem State.countDrain_report : (s.countDrain).report = s.report := rfl
@[simp] theorem State.countDrain_exOut : (s.countDrain).exOut = s.exOut := rfl
@[simp] theorem State.countDrain_params : (s.countDrain).params = s.params := rfl
@[simp] theorem State.countDrain_pending : (s.countDrain).pending = s.pending := rfl
@[simp] theorem State.countDrain_draws : (s.countDrain).draws = s.draws := rfl
@[simp] theorem State.countDrain_input : (s.countDrain).input = s.input := rfl

@[simp] theorem State.raiseStartupFailure_phase : (s.raiseStartupFailure).phase = .failed := rfl
@[simp] theorem State.raiseStartupFailure_drainCount : (s.raiseStartupFailure).drainCount = s.drainCount := rfl
@[simp] theorem State.raiseStartupFailure_cycleCount : (s.raiseStartupFailure).cycleCount = s.cycleCount := rfl
@[simp] theorem State.raiseStartupFailure_tvSet : (s.raiseStartupFailure).tvSet = s.tvSet := rfl
@[simp] theorem State.raiseStartupFailure_startPos : (s.raiseStartupFailure).startPos = s.startPos := rfl
@[simp] theorem State.raiseStartupFailure_wkc : (s.raiseStartupFailure).wkc = s.wkc := rfl
@[simp] theorem State.raiseStartupFailure_motorEnabled : (s.raiseStartupFailure).motorEnabled = s.motorEnabled := rfl
@[simp] theorem State.raiseStartupFailure_runFlag : (s.raiseStartupFailure).runFlag = s.runFlag := rfl
@[simp] theorem State.raiseStartupFailure_outRec : (s.raiseStartupFailure).outRec = s.outRec := rfl
@[simp] theorem State.raiseStartupFailure_inRec : (s.raiseStartupFailure).inRec = s.inRec := rfl
@[simp] theorem State.raiseStartupFailure_enableEvt : (s.raiseStartupFailure).enableEvt = s.enableEvt := rfl
@[simp] theorem State.raiseStartupFailure_report : (s.raiseStartupFailure).report = s.report := rfl
@[simp] theorem State.raiseStartupFailure_exOut : (s.raiseStartupFailure).exOut = s.exOut := rfl
@[simp] theorem State.raiseStartupFailure_params : (s.raiseStartupFailure).params = s.params := rfl
@[simp] theorem State.raiseStartupFailure_pending : (s.raiseStartupFailure).pending = s.pending := rfl
@[simp] theorem State.raiseStartupFailure_draws : (s.raiseStartupFailure).draws = s.draws := rfl
@[simp] theorem State.raiseStartupFailure_input : (s.raiseStartupFailure).input = s.input := rfl

@[simp] theorem State.enterDrain_phase : (s.enterDrain).phase = .drain := rfl
@[simp] theorem State.enterDrain_drainCount : (s.enterDrain).drainCount = 0 := rfl
@[simp] theorem State.enterDrain_cycleCount : (s.enterDrain).cycleCount = s.cycleCount := rfl
@[simp] theorem State.enterDrain_tvSet : (s.enterDrain).tvSet = s.tvSet := rfl
@[simp] theorem State.enterDrain_startPos : (s.enterDrain).startPos = s.startPos := rfl
@[simp] theorem State.enterDrain_wkc : (s.enterDrain).wkc = s.wkc := rfl
@[simp] theorem State.enterDrain_motorEnabled : (s.enterDrain).motorEnabled = s.motorEnabled := rfl
@[simp] theorem State.enterDrain_runFlag : (s.enterDrain).runFlag = s.runFlag := rfl
@[simp] theorem State.enterDrain_outRec : (s.enterDrain).outRec = s.outRec := rfl
@[simp] theorem State.enterDrain_inRec : (s.enterDrain).inRec = s.inRec := rfl
@[simp] theorem State.enterDrain_enableEvt : (s.enterDrain).enableEvt = s.enableEvt := rfl
@[simp] theorem State.enterDrain_report : (s.enterDrain).report = s.report := rfl
@[simp] theorem State.enterDrain_exOut : (s.enterDrain).exOut = s.exOut := rfl
@[simp] theorem State.enterDrain_params : (s.enterDrain).params = s.params := rfl
@[simp] theorem State.enterDrain_pending : (s.enterDrain).pending = s.pending := rfl
@[simp] theorem State.enterDrain_draws : (s.enterDrain).draws = s.draws := rfl
@[simp] theorem State.enterDrain_input : (s.enterDrain).input = s.input := rfl

@[simp] theorem State.requestStop_phase : (s.requestStop).phase = s.phase := rfl
@[simp] theorem State.requestStop_drainCount : (s.requestStop).drainCount = s.drainCount := rfl
@[simp] theorem State.requestStop_cycleCount : (s.requestStop).cycleCount = s.cycleCount := rfl
@[simp] theorem State.requestStop_tvSet : (s.requestStop).tvSet = s.tvSet := rfl
@[simp] theorem State.requestStop_startPos : (s.requestStop).startPos = s.startPos := rfl
@[simp] theorem State.requestStop_wkc : (s.requestStop).wkc = s.wkc := rfl
@[simp] theorem State.requestStop_motorEnabled : (s.requestStop).motorEnabled = s.motorEnabled := rfl
@[simp] theorem State.requestStop_runFlag : (s.requestStop).runFlag = false := rfl
@[simp] theorem State.requestStop_outRec : (s.requestStop).outRec = s.outRec := rfl
@[simp] theorem State.requestStop_inRec : (s.requestStop).inRec = s.inRec := rfl
@[simp] theorem State.requestStop_enableEvt : (s.requestStop).enableEvt = s.enableEvt := rfl
@[simp] theorem State.requestStop_report : (s.requestStop).report = s.report := rfl
@[simp] theorem State.requestStop_exOut : (s.requestStop).exOut = s.exOut := rfl
@[simp] theorem State.requestStop_params : (s.requestStop).params = s.params := rfl
@[simp] theorem State.requestStop_pending : (s.requestStop).pending = s.pending := rfl
@[simp] theorem State.requestStop_draws : (s.requestStop).draws = s.draws := rfl
@[simp] theorem State.requestStop_input : (s.requestStop).input = s.input := rfl

@[simp] theorem State.enterLoop_phase : (s.enterLoop).phase = .run := rfl
@[simp] theorem State.enterLoop_drainCount : (s.enterLoop).drainCount = s.drainCount := rfl
@[simp] theorem State.enterLoop_cycleCount : (s.enterLoop).cycleCount = 0 := rfl
@[simp] theorem State.enterLoop_tvSet : (s.enterLoop).tvSet = s.params.targetVel := rfl
@[simp] theorem State.enterLoop_startPos : (s.enterLoop).startPos = 0 := rfl
@[simp] theorem State.enterLoop_wkc : (s.enterLoop).wkc = s.wkc := rfl
@[simp] theorem State.enterLoop_motorEnabled : (s.enterLoop).motorEnabled = false := rfl
@[simp] theorem State.enterLoop_runFlag : (s.enterLoop).runFlag = s.runFlag := rfl
@[simp] theorem State.enterLoop_outRec : (s.enterLoop).outRec = s.outRec := rfl
@[simp] theorem State.enterLoop_inRec : (s.enterLoop).inRec = s.inRec := rfl
@[simp] theorem State.enterLoop_enableEvt : (s.enterLoop).enableEvt = s.enableEvt := rfl
@[simp] theorem State.enterLoop_report : (s.enterLoop).report = s.report := rfl
@[simp] theorem State.enterLoop_exOut : (s.enterLoop).exOut = s.exOut := rfl
@[simp] theorem State.enterLoop_params : (s.enterLoop).params = s.params := rfl
@[simp] theorem State.enterLoop_pending : (s.enterLoop).pending = s.pending := rfl
@[simp] theorem State.enterLoop_draws : (s.enterLoop).draws = s.draws := rfl
@[simp] theorem State.enterLoop_input : (s.enterLoop).input = s.input := rfl

@[simp] theorem State.advance_phase : (s.advance).phase = s.phase := rfl
@[simp] theorem State.advance_drainCount : (s.advance).drainCount = s.drainCount := rfl
@[simp] theorem State.advance_cycleCount : (s.advance).cycleCount = s.cycleCount := rfl
@[simp] theorem State.advance_tvSet : (s.advance).tvSet = s.tvSet := rfl
@[simp] theorem State.advance_startPos : (s.advance).startPos = s.startPos := rfl
@[simp] theorem State.advance_wkc : (s.advance).wkc = s.wkc := rfl
@[simp] theorem State.advance_motorEnabled : (s.advance).motorEnabled = s.motorEnabled := rfl
@[simp] theorem State.advance_runFlag : (s.advance).runFlag = s.runFlag := rfl
@[simp] theorem State.advance_outRec : (s.advance).outRec = s.outRec := rfl
@[simp] theorem State.advance_inRec : (s.advance).inRec = s.inRec := rfl
@[simp] theorem State.advance_enableEvt : (s.advance).enableEvt = s.enableEvt := rfl
@[simp] theorem State.advance_report : (s.advance).report = s.report := rfl
@[simp] theorem State.advance_exOut : (s.advance).exOut = s.exOut := rfl
@[simp] theorem State.advance_params : (s.advance).params = s.params := rfl
@[simp] theorem State.advance_pending : (s.advance).pending = s.pending.tail := rfl

@[simp] theorem State.beginCycle_phase : (s.beginCycle).phase = s.phase := rfl
@[simp] theorem State.beginCycle_drainCount : (s.beginCycle).drainCount = s.drainCount := rfl
@[simp] theorem State.beginCycle_cycleCount : (s.beginCycle).cycleCount = s.cycleCount := rfl
@[simp] theorem State.beginCycle_tvSet : (s.beginCycle).tvSet = s.tvSet := rfl
@[simp] theorem State.beginCycle_startPos : (s.beginCycle).startPos = s.startPos := rfl
@[simp] theorem State.beginCycle_wkc : (s.beginCycle).wkc = s.input.resp.wkc := rfl
@[simp] theorem State.beginCycle_motorEnabled : (s.beginCycle).motorEnabled = s.motorEnabled := rfl
@[simp] theorem State.beginCycle_runFlag : (s.beginCycle).runFlag = s.runFlag := rfl
@[simp] theorem State.beginCycle_outRec : (s.beginCycle).outRec = s.outRec := rfl
@[simp] theorem State.beginCycle_inRec : (s.beginCycle).inRec = (s.exchange s.input.resp).inRec := rfl
@[simp] theorem State.beginCycle_enableEvt : (s.beginCycle).enableEvt = false := rfl
@[simp] theorem State.beginCycle_report : (s.beginCycle).report = false := rfl
@[simp] theorem State.beginCycle_exOut : (s.beginCycle).exOut = some s.outRec.toRecord := rfl
@[simp] theorem State.beginCycle_params : (s.beginCycle).params = s.params := rfl
@[simp] theorem State.beginCycle_pending : (s.beginCycle).pending = s.pending := rfl
@[simp] theorem State.beginCycle_draws : (s.beginCycle).draws = s.draws := rfl
@[simp] theorem State.beginCycle_input : (s.beginCycle).input = s.input := rfl

@[simp] theorem State.endCycle_phase : (s.endCycle).phase = s.phase := rfl
@[simp] theorem State.endCycle_drainCount : (s.endCycle).drainCount = s.drainCount := rfl
@[simp] theorem State.endCycle_cycleCount : (s.endCycle).cycleCount = s.cycleCount + 1 := rfl
@[simp] theorem State.endCycle_tvSet : (s.endCycle).tvSet = s.tvSet := rfl
@[simp] theorem State.endCycle_startPos : (s.endCycle).startPos = s.startPos := rfl
@[simp] theorem State.endCycle_wkc : (s.endCycle).wkc = s.wkc := rfl
@[simp] theorem State.endCycle_motorEnabled : (s.endCycle).motorEnabled = s.motorEnabled := rfl
@[simp] theorem State.endCycle_runFlag : (s.endCycle).runFlag = s.runFlag := rfl
@[simp] theorem State.endCycle_outRec : (s.endCycle).outRec = s.reassert.outRec := rfl
@[simp] theorem State.endCycle_inRec : (s.endCycle).inRec = s.inRec := rfl
@[simp] theorem State.endCycle_enableEvt : (s.endCycle).enableEvt = s.enableEvt := rfl
@[simp] theorem State.endCycle_exOut : (s.endCycle).exOut = s.exOut := rfl
@[simp] theorem State.endCycle_params : (s.endCycle).params = s.params := rfl
@[simp] theorem State.endCycle_pending : (s.endCycle).pending = s.pending := rfl
@[simp] theorem State.endCycle_draws : (s.endCycle).draws = s.draws := rfl
@[simp] theorem State.endCycle_input : (s.endCycle).input = s.input := rfl

@[simp] theorem State.countCycle_report : s.countCycle.report =
    if (s.cycleCount + 1).toNat % s.params.reportPeriod = 0 then true else s.report := rfl
@[simp] theorem State.endCycle_report : s.endCycle.report =
    if (s.cycleCount + 1).toNat % s.params.reportPeriod = 0 then true else s.report := rfl
@[simp] theorem State.countDrain_phase : s.countDrain.phase =
    if (s.drainCount + 1).toNat = Config.drainCycles then .halted else s.phase := rfl
@[simp] theorem State.exchange_inRec_fresh (bytes : Record) (w : Half) :
    (s.exchange (.fresh bytes w)).inRec = Memory.ofRecord bytes := rfl
@[simp] theorem State.exchange_inRec_stale (w : Half) :
    (s.exchange (.stale w)).inRec = s.inRec := rfl

/-- A byte of `OUT` is a byte of its memory. -/
theorem State.byte_out (k : Nat) : s.byte .out k = s.outRec.get k := rfl

/-- A byte of `IN` is a byte of its memory. -/
theorem State.byte_inp (k : Nat) : s.byte .inp k = s.inRec.get k := rfl

end Sys2Proof.Machine
end

