-- ==== Sys2Proof/Laws/Ops.lean ====
section
/-! SUPPORT. For each shared operation what it does to the fields of the two records, once. -/

namespace Sys2Proof.Machine

variable (s : State)

/-! ### The fields of `OUT` after one write -/

@[simp] theorem State.setControlWord_outCommand (cw : Half) :
    (s.setControlWord cw).outCommand = { s.outCommand with controlWord := cw } := by
  simp only [State.outCommand, Command.mk.injEq]
  refine ⟨?_, ?_, ?_, ?_, ?_, ?_, ?_⟩
  · exact Memory.read_write_same _ _ _ _ _
  all_goals exact Memory.read_write_other _ _ _ _ _ _ _ (by decide)

@[simp] theorem State.setTargetVelocity_outCommand (tv : Word) :
    (s.setTargetVelocity tv).outCommand = { s.outCommand with targetVelocity := tv } := by
  simp only [State.outCommand, Command.mk.injEq]
  refine ⟨?_, ?_, ?_, ?_, ?_, ?_, ?_⟩
  case refine_3 => exact Memory.read_write_same _ _ _ _ _
  all_goals exact Memory.read_write_other _ _ _ _ _ _ _ (by decide)

@[simp] theorem State.setMaxTorque_outCommand (t : Half) :
    (s.setMaxTorque t).outCommand = { s.outCommand with maxTorque := t } := by
  simp only [State.outCommand, Command.mk.injEq]
  refine ⟨?_, ?_, ?_, ?_, ?_, ?_, ?_⟩
  case refine_5 => exact Memory.read_write_same _ _ _ _ _
  all_goals exact Memory.read_write_other _ _ _ _ _ _ _ (by decide)

@[simp] theorem State.setOperatingMode_outCommand (m : Byte) :
    (s.setOperatingMode m).outCommand = { s.outCommand with operatingMode := m } := by
  simp only [State.outCommand, Command.mk.injEq]
  refine ⟨?_, ?_, ?_, ?_, ?_, ?_, ?_⟩
  case refine_6 => exact Memory.read_write_same _ _ _ _ _
  all_goals exact Memory.read_write_other _ _ _ _ _ _ _ (by decide)

/-- The two writes of an action: the pair (control word, target velocity), and nothing else of
`OUT`. -/
@[simp] theorem State.command_outCommand (cw : Half) (tv : Word) :
    (s.command cw tv).outCommand =
      { s.outCommand with controlWord := cw, targetVelocity := tv } := by
  simp [State.command]

/-- REASSERT: the two constant fields, and nothing else of `OUT`. -/
@[simp] theorem State.reassert_outCommand :
    s.reassert.outCommand =
      { s.outCommand with maxTorque := s.params.maxTorque, operatingMode := s.params.modeCsv } := by
  simp [State.reassert]

/-- The drain command: the pair (0x0000, 0), and nothing else of `OUT`. -/
@[simp] theorem State.zeroCommand_outCommand :
    s.zeroCommand.outCommand = { s.outCommand with controlWord := 0x0000, targetVelocity := 0 } := by
  simp [State.zeroCommand]

/-- States with one record `OUT` have one Output Command. -/
theorem State.outCommand_congr {s t : State} (h : t.outRec = s.outRec) :
    t.outCommand = s.outCommand := by
  simp only [State.outCommand, State.controlWord, State.targetPosition, State.targetVelocity,
    State.targetTorque, State.maxTorque, State.operatingMode, State.outPad, h]

/-- States with one record `IN` have one Input Snapshot. -/
theorem State.snapshot_congr {s t : State} (h : t.inRec = s.inRec) : t.snapshot = s.snapshot := by
  simp only [State.snapshot, State.statusWord, State.actualPosition, State.actualVelocity,
    State.actualTorque, State.errorCode, State.modeDisplay, State.inPad, h]

/-! ### Operations that leave a record leave its fields -/

@[simp] theorem State.latch_outCommand : s.latch.outCommand = s.outCommand :=
  State.outCommand_congr rfl

@[simp] theorem State.exchange_outCommand (r : Resp) : (s.exchange r).outCommand = s.outCommand :=
  State.outCommand_congr rfl

@[simp] theorem State.clearStrobes_outCommand : s.clearStrobes.outCommand = s.outCommand :=
  State.outCommand_congr rfl

@[simp] theorem State.beginStep_outCommand : s.beginStep.outCommand = s.outCommand :=
  State.outCommand_congr rfl

@[simp] theorem State.countCycle_outCommand : s.countCycle.outCommand = s.outCommand :=
  State.outCommand_congr rfl

@[simp] theorem State.countDrain_outCommand : s.countDrain.outCommand = s.outCommand :=
  State.outCommand_congr rfl

@[simp] theorem State.enterDrain_outCommand : s.enterDrain.outCommand = s.outCommand :=
  State.outCommand_congr rfl

@[simp] theorem State.requestStop_outCommand : s.requestStop.outCommand = s.outCommand :=
  State.outCommand_congr rfl

@[simp] theorem State.enterLoop_outCommand : s.enterLoop.outCommand = s.outCommand :=
  State.outCommand_congr rfl

@[simp] theorem State.raiseStartupFailure_outCommand : s.raiseStartupFailure.outCommand = s.outCommand :=
  State.outCommand_congr rfl

@[simp] theorem State.advance_outCommand : s.advance.outCommand = s.outCommand :=
  State.outCommand_congr rfl

@[simp] theorem State.command_snapshot (cw : Half) (tv : Word) : (s.command cw tv).snapshot = s.snapshot :=
  State.snapshot_congr rfl

@[simp] theorem State.reassert_snapshot : s.reassert.snapshot = s.snapshot :=
  State.snapshot_congr rfl

@[simp] theorem State.zeroCommand_snapshot : s.zeroCommand.snapshot = s.snapshot :=
  State.snapshot_congr rfl

@[simp] theorem State.latch_snapshot : s.latch.snapshot = s.snapshot :=
  State.snapshot_congr rfl

@[simp] theorem State.clearStrobes_snapshot : s.clearStrobes.snapshot = s.snapshot :=
  State.snapshot_congr rfl

@[simp] theorem State.beginStep_snapshot : s.beginStep.snapshot = s.snapshot :=
  State.snapshot_congr rfl

@[simp] theorem State.countCycle_snapshot : s.countCycle.snapshot = s.snapshot :=
  State.snapshot_congr rfl

@[simp] theorem State.countDrain_snapshot : s.countDrain.snapshot = s.snapshot :=
  State.snapshot_congr rfl

@[simp] theorem State.enterDrain_snapshot : s.enterDrain.snapshot = s.snapshot :=
  State.snapshot_congr rfl

@[simp] theorem State.requestStop_snapshot : s.requestStop.snapshot = s.snapshot :=
  State.snapshot_congr rfl

@[simp] theorem State.enterLoop_snapshot : s.enterLoop.snapshot = s.snapshot :=
  State.snapshot_congr rfl

@[simp] theorem State.raiseStartupFailure_snapshot : s.raiseStartupFailure.snapshot = s.snapshot :=
  State.snapshot_congr rfl

@[simp] theorem State.advance_snapshot : s.advance.snapshot = s.snapshot :=
  State.snapshot_congr rfl

/-- The beginning of a CYCLE leaves the Output Command. -/
@[simp] theorem State.beginCycle_outCommand : s.beginCycle.outCommand = s.outCommand :=
  State.outCommand_congr rfl

/-- The end of a CYCLE: the two constant fields, and nothing else of `OUT`. -/
@[simp] theorem State.endCycle_outCommand :
    s.endCycle.outCommand =
      { s.outCommand with maxTorque := s.params.maxTorque, operatingMode := s.params.modeCsv } :=
  (State.countCycle_outCommand s.reassert).trans (State.reassert_outCommand s)

/-- The end of a CYCLE leaves the Input Snapshot. -/
@[simp] theorem State.endCycle_snapshot : s.endCycle.snapshot = s.snapshot :=
  State.snapshot_congr rfl

/-! ### One field after an operation -/

@[simp] theorem State.command_controlWord (cw : Half) (tv : Word) : (s.command cw tv).controlWord = cw :=
  congrArg Command.controlWord (State.command_outCommand s cw tv)
@[simp] theorem State.command_targetPosition (cw : Half) (tv : Word) : (s.command cw tv).targetPosition = s.targetPosition :=
  congrArg Command.targetPosition (State.command_outCommand s cw tv)
@[simp] theorem State.command_targetVelocity (cw : Half) (tv : Word) : (s.command cw tv).targetVelocity = tv :=
  congrArg Command.targetVelocity (State.command_outCommand s cw tv)
@[simp] theorem State.command_targetTorque (cw : Half) (tv : Word) : (s.command cw tv).targetTorque = s.targetTorque :=
  congrArg Command.targetTorque (State.command_outCommand s cw tv)
@[simp] theorem State.command_maxTorque (cw : Half) (tv : Word) : (s.command cw tv).maxTorque = s.maxTorque :=
  congrArg Command.maxTorque (State.command_outCommand s cw tv)
@[simp] theorem State.command_operatingMode (cw : Half) (tv : Word) : (s.command cw tv).operatingMode = s.operatingMode :=
  congrArg Command.operatingMode (State.command_outCommand s cw tv)
@[simp] theorem State.command_outPad (cw : Half) (tv : Word) : (s.command cw tv).outPad = s.outPad :=
  congrArg Command.pad (State.command_outCommand s cw tv)

@[simp] theorem State.reassert_controlWord : s.reassert.controlWord = s.controlWord :=
  congrArg Command.controlWord (State.reassert_outCommand s)
@[simp] theorem State.reassert_targetPosition : s.reassert.targetPosition = s.targetPosition :=
  congrArg Command.targetPosition (State.reassert_outCommand s)
@[simp] theorem State.reassert_targetVelocity : s.reassert.targetVelocity = s.targetVelocity :=
  congrArg Command.targetVelocity (State.reassert_outCommand s)
@[simp] theorem State.reassert_targetTorque : s.reassert.targetTorque = s.targetTorque :=
  congrArg Command.targetTorque (State.reassert_outCommand s)
@[simp] theorem State.reassert_maxTorque : s.reassert.maxTorque = s.params.maxTorque :=
  congrArg Command.maxTorque (State.reassert_outCommand s)
@[simp] theorem State.reassert_operatingMode : s.reassert.operatingMode = s.params.modeCsv :=
  congrArg Command.operatingMode (State.reassert_outCommand s)
@[simp] theorem State.reassert_outPad : s.reassert.outPad = s.outPad :=
  congrArg Command.pad (State.reassert_outCommand s)

@[simp] theorem State.zeroCommand_controlWord : s.zeroCommand.controlWord = 0x0000 :=
  congrArg Command.controlWord (State.zeroCommand_outCommand s)
@[simp] theorem State.zeroCommand_targetPosition : s.zeroCommand.targetPosition = s.targetPosition :=
  congrArg Command.targetPosition (State.zeroCommand_outCommand s)
@[simp] theorem State.zeroCommand_targetVelocity : s.zeroCommand.targetVelocity = 0 :=
  congrArg Command.targetVelocity (State.zeroCommand_outCommand s)
@[simp] theorem State.zeroCommand_targetTorque : s.zeroCommand.targetTorque = s.targetTorque :=
  congrArg Command.targetTorque (State.zeroCommand_outCommand s)
@[simp] theorem State.zeroCommand_maxTorque : s.zeroCommand.maxTorque = s.maxTorque :=
  congrArg Command.maxTorque (State.zeroCommand_outCommand s)
@[simp] theorem State.zeroCommand_operatingMode : s.zeroCommand.operatingMode = s.operatingMode :=
  congrArg Command.operatingMode (State.zeroCommand_outCommand s)
@[simp] theorem State.zeroCommand_outPad : s.zeroCommand.outPad = s.outPad :=
  congrArg Command.pad (State.zeroCommand_outCommand s)

@[simp] theorem State.latch_controlWord : s.latch.controlWord = s.controlWord :=
  congrArg Command.controlWord (State.latch_outCommand s)
@[simp] theorem State.latch_targetPosition : s.latch.targetPosition = s.targetPosition :=
  congrArg Command.targetPosition (State.latch_outCommand s)
@[simp] theorem State.latch_targetVelocity : s.latch.targetVelocity = s.targetVelocity :=
  congrArg Command.targetVelocity (State.latch_outCommand s)
@[simp] theorem State.latch_targetTorque : s.latch.targetTorque = s.targetTorque :=
  congrArg Command.targetTorque (State.latch_outCommand s)
@[simp] theorem State.latch_maxTorque : s.latch.maxTorque = s.maxTorque :=
  congrArg Command.maxTorque (State.latch_outCommand s)
@[simp] theorem State.latch_operatingMode : s.latch.operatingMode = s.operatingMode :=
  congrArg Command.operatingMode (State.latch_outCommand s)
@[simp] theorem State.latch_outPad : s.latch.outPad = s.outPad :=
  congrArg Command.pad (State.latch_outCommand s)

@[simp] theorem State.exchange_controlWord (r : Resp) : (s.exchange r).controlWord = s.controlWord :=
  congrArg Command.controlWord (State.exchange_outCommand s r)
@[simp] theorem State.exchange_targetPosition (r : Resp) : (s.exchange r).targetPosition = s.targetPosition :=
  congrArg Command.targetPosition (State.exchange_outCommand s r)
@[simp] theorem State.exchange_targetVelocity (r : Resp) : (s.exchange r).targetVelocity = s.targetVelocity :=
  congrArg Command.targetVelocity (State.exchange_outCommand s r)
@[simp] theorem State.exchange_targetTorque (r : Resp) : (s.exchange r).targetTorque = s.targetTorque :=
  congrArg Command.targetTorque (State.exchange_outCommand s r)
@[simp] theorem State.exchange_maxTorque (r : Resp) : (s.exchange r).maxTorque = s.maxTorque :=
  congrArg Command.maxTorque (State.exchange_outCommand s r)
@[simp] theorem State.exchange_operatingMode (r : Resp) : (s.exchange r).operatingMode = s.operatingMode :=
  congrArg Command.operatingMode (State.exchange_outCommand s r)
@[simp] theorem State.exchange_outPad (r : Resp) : (s.exchange r).outPad = s.outPad :=
  congrArg Command.pad (State.exchange_outCommand s r)

@[simp] theorem State.countDrain_controlWord : s.countDrain.controlWord = s.controlWord :=
  congrArg Command.controlWord (State.countDrain_outCommand s)
@[simp] theorem State.countDrain_targetPosition : s.countDrain.targetPosition = s.targetPosition :=
  congrArg Command.targetPosition (State.countDrain_outCommand s)
@[simp] theorem State.countDrain_targetVelocity : s.countDrain.targetVelocity = s.targetVelocity :=
  congrArg Command.targetVelocity (State.countDrain_outCommand s)
@[simp] theorem State.countDrain_targetTorque : s.countDrain.targetTorque = s.targetTorque :=
  congrArg Command.targetTorque (State.countDrain_outCommand s)
@[simp] theorem State.countDrain_maxTorque : s.countDrain.maxTorque = s.maxTorque :=
  congrArg Command.maxTorque (State.countDrain_outCommand s)
@[simp] theorem State.countDrain_operatingMode : s.countDrain.operatingMode = s.operatingMode :=
  congrArg Command.operatingMode (State.countDrain_outCommand s)
@[simp] theorem State.countDrain_outPad : s.countDrain.outPad = s.outPad :=
  congrArg Command.pad (State.countDrain_outCommand s)

@[simp] theorem State.beginStep_controlWord : s.beginStep.controlWord = s.controlWord :=
  congrArg Command.controlWord (State.beginStep_outCommand s)
@[simp] theorem State.beginStep_targetPosition : s.beginStep.targetPosition = s.targetPosition :=
  congrArg Command.targetPosition (State.beginStep_outCommand s)
@[simp] theorem State.beginStep_targetVelocity : s.beginStep.targetVelocity = s.targetVelocity :=
  congrArg Command.targetVelocity (State.beginStep_outCommand s)
@[simp] theorem State.beginStep_targetTorque : s.beginStep.targetTorque = s.targetTorque :=
  congrArg Command.targetTorque (State.beginStep_outCommand s)
@[simp] theorem State.beginStep_maxTorque : s.beginStep.maxTorque = s.maxTorque :=
  congrArg Command.maxTorque (State.beginStep_outCommand s)
@[simp] theorem State.beginStep_operatingMode : s.beginStep.operatingMode = s.operatingMode :=
  congrArg Command.operatingMode (State.beginStep_outCommand s)
@[simp] theorem State.beginStep_outPad : s.beginStep.outPad = s.outPad :=
  congrArg Command.pad (State.beginStep_outCommand s)

@[simp] theorem State.advance_controlWord : s.advance.controlWord = s.controlWord :=
  congrArg Command.controlWord (State.advance_outCommand s)
@[simp] theorem State.advance_targetPosition : s.advance.targetPosition = s.targetPosition :=
  congrArg Command.targetPosition (State.advance_outCommand s)
@[simp] theorem State.advance_targetVelocity : s.advance.targetVelocity = s.targetVelocity :=
  congrArg Command.targetVelocity (State.advance_outCommand s)
@[simp] theorem State.advance_targetTorque : s.advance.targetTorque = s.targetTorque :=
  congrArg Command.targetTorque (State.advance_outCommand s)
@[simp] theorem State.advance_maxTorque : s.advance.maxTorque = s.maxTorque :=
  congrArg Command.maxTorque (State.advance_outCommand s)
@[simp] theorem State.advance_operatingMode : s.advance.operatingMode = s.operatingMode :=
  congrArg Command.operatingMode (State.advance_outCommand s)
@[simp] theorem State.advance_outPad : s.advance.outPad = s.outPad :=
  congrArg Command.pad (State.advance_outCommand s)

@[simp] theorem State.beginCycle_controlWord : s.beginCycle.controlWord = s.controlWord :=
  congrArg Command.controlWord (State.beginCycle_outCommand s)
@[simp] theorem State.beginCycle_targetPosition : s.beginCycle.targetPosition = s.targetPosition :=
  congrArg Command.targetPosition (State.beginCycle_outCommand s)
@[simp] theorem State.beginCycle_targetVelocity : s.beginCycle.targetVelocity = s.targetVelocity :=
  congrArg Command.targetVelocity (State.beginCycle_outCommand s)
@[simp] theorem State.beginCycle_targetTorque : s.beginCycle.targetTorque = s.targetTorque :=
  congrArg Command.targetTorque (State.beginCycle_outCommand s)
@[simp] theorem State.beginCycle_maxTorque : s.beginCycle.maxTorque = s.maxTorque :=
  congrArg Command.maxTorque (State.beginCycle_outCommand s)
@[simp] theorem State.beginCycle_operatingMode : s.beginCycle.operatingMode = s.operatingMode :=
  congrArg Command.operatingMode (State.beginCycle_outCommand s)
@[simp] theorem State.beginCycle_outPad : s.beginCycle.outPad = s.outPad :=
  congrArg Command.pad (State.beginCycle_outCommand s)

@[simp] theorem State.endCycle_controlWord : s.endCycle.controlWord = s.controlWord :=
  congrArg Command.controlWord (State.endCycle_outCommand s)
@[simp] theorem State.endCycle_targetPosition : s.endCycle.targetPosition = s.targetPosition :=
  congrArg Command.targetPosition (State.endCycle_outCommand s)
@[simp] theorem State.endCycle_targetVelocity : s.endCycle.targetVelocity = s.targetVelocity :=
  congrArg Command.targetVelocity (State.endCycle_outCommand s)
@[simp] theorem State.endCycle_targetTorque : s.endCycle.targetTorque = s.targetTorque :=
  congrArg Command.targetTorque (State.endCycle_outCommand s)
@[simp] theorem State.endCycle_maxTorque : s.endCycle.maxTorque = s.params.maxTorque :=
  congrArg Command.maxTorque (State.endCycle_outCommand s)
@[simp] theorem State.endCycle_operatingMode : s.endCycle.operatingMode = s.params.modeCsv :=
  congrArg Command.operatingMode (State.endCycle_outCommand s)
@[simp] theorem State.endCycle_outPad : s.endCycle.outPad = s.outPad :=
  congrArg Command.pad (State.endCycle_outCommand s)

@[simp] theorem State.command_statusWord (cw : Half) (tv : Word) : (s.command cw tv).statusWord = s.statusWord :=
  congrArg Snapshot.statusWord (State.command_snapshot s cw tv)
@[simp] theorem State.command_actualPosition (cw : Half) (tv : Word) : (s.command cw tv).actualPosition = s.actualPosition :=
  congrArg Snapshot.actualPosition (State.command_snapshot s cw tv)
@[simp] theorem State.command_actualVelocity (cw : Half) (tv : Word) : (s.command cw tv).actualVelocity = s.actualVelocity :=
  congrArg Snapshot.actualVelocity (State.command_snapshot s cw tv)
@[simp] theorem State.command_actualTorque (cw : Half) (tv : Word) : (s.command cw tv).actualTorque = s.actualTorque :=
  congrArg Snapshot.actualTorque (State.command_snapshot s cw tv)
@[simp] theorem State.command_errorCode (cw : Half) (tv : Word) : (s.command cw tv).errorCode = s.errorCode :=
  congrArg Snapshot.errorCode (State.command_snapshot s cw tv)
@[simp] theorem State.command_modeDisplay (cw : Half) (tv : Word) : (s.command cw tv).modeDisplay = s.modeDisplay :=
  congrArg Snapshot.modeDisplay (State.command_snapshot s cw tv)
@[simp] theorem State.command_inPad (cw : Half) (tv : Word) : (s.command cw tv).inPad = s.inPad :=
  congrArg Snapshot.pad (State.command_snapshot s cw tv)

@[simp] theorem State.latch_statusWord : s.latch.statusWord = s.statusWord :=
  congrArg Snapshot.statusWord (State.latch_snapshot s)
@[simp] theorem State.latch_actualPosition : s.latch.actualPosition = s.actualPosition :=
  congrArg Snapshot.actualPosition (State.latch_snapshot s)
@[simp] theorem State.latch_actualVelocity : s.latch.actualVelocity = s.actualVelocity :=
  congrArg Snapshot.actualVelocity (State.latch_snapshot s)
@[simp] theorem State.latch_actualTorque : s.latch.actualTorque = s.actualTorque :=
  congrArg Snapshot.actualTorque (State.latch_snapshot s)
@[simp] theorem State.latch_errorCode : s.latch.errorCode = s.errorCode :=
  congrArg Snapshot.errorCode (State.latch_snapshot s)
@[simp] theorem State.latch_modeDisplay : s.latch.modeDisplay = s.modeDisplay :=
  congrArg Snapshot.modeDisplay (State.latch_snapshot s)
@[simp] theorem State.latch_inPad : s.latch.inPad = s.inPad :=
  congrArg Snapshot.pad (State.latch_snapshot s)

@[simp] theorem State.beginStep_statusWord : s.beginStep.statusWord = s.statusWord :=
  congrArg Snapshot.statusWord (State.beginStep_snapshot s)
@[simp] theorem State.beginStep_actualPosition : s.beginStep.actualPosition = s.actualPosition :=
  congrArg Snapshot.actualPosition (State.beginStep_snapshot s)
@[simp] theorem State.beginStep_actualVelocity : s.beginStep.actualVelocity = s.actualVelocity :=
  congrArg Snapshot.actualVelocity (State.beginStep_snapshot s)
@[simp] theorem State.beginStep_actualTorque : s.beginStep.actualTorque = s.actualTorque :=
  congrArg Snapshot.actualTorque (State.beginStep_snapshot s)
@[simp] theorem State.beginStep_errorCode : s.beginStep.errorCode = s.errorCode :=
  congrArg Snapshot.errorCode (State.beginStep_snapshot s)
@[simp] theorem State.beginStep_modeDisplay : s.beginStep.modeDisplay = s.modeDisplay :=
  congrArg Snapshot.modeDisplay (State.beginStep_snapshot s)
@[simp] theorem State.beginStep_inPad : s.beginStep.inPad = s.inPad :=
  congrArg Snapshot.pad (State.beginStep_snapshot s)

@[simp] theorem State.advance_statusWord : s.advance.statusWord = s.statusWord :=
  congrArg Snapshot.statusWord (State.advance_snapshot s)
@[simp] theorem State.advance_actualPosition : s.advance.actualPosition = s.actualPosition :=
  congrArg Snapshot.actualPosition (State.advance_snapshot s)
@[simp] theorem State.advance_actualVelocity : s.advance.actualVelocity = s.actualVelocity :=
  congrArg Snapshot.actualVelocity (State.advance_snapshot s)
@[simp] theorem State.advance_actualTorque : s.advance.actualTorque = s.actualTorque :=
  congrArg Snapshot.actualTorque (State.advance_snapshot s)
@[simp] theorem State.advance_errorCode : s.advance.errorCode = s.errorCode :=
  congrArg Snapshot.errorCode (State.advance_snapshot s)
@[simp] theorem State.advance_modeDisplay : s.advance.modeDisplay = s.modeDisplay :=
  congrArg Snapshot.modeDisplay (State.advance_snapshot s)
@[simp] theorem State.advance_inPad : s.advance.inPad = s.inPad :=
  congrArg Snapshot.pad (State.advance_snapshot s)

@[simp] theorem State.endCycle_statusWord : s.endCycle.statusWord = s.statusWord :=
  congrArg Snapshot.statusWord (State.endCycle_snapshot s)
@[simp] theorem State.endCycle_actualPosition : s.endCycle.actualPosition = s.actualPosition :=
  congrArg Snapshot.actualPosition (State.endCycle_snapshot s)
@[simp] theorem State.endCycle_actualVelocity : s.endCycle.actualVelocity = s.actualVelocity :=
  congrArg Snapshot.actualVelocity (State.endCycle_snapshot s)
@[simp] theorem State.endCycle_actualTorque : s.endCycle.actualTorque = s.actualTorque :=
  congrArg Snapshot.actualTorque (State.endCycle_snapshot s)
@[simp] theorem State.endCycle_errorCode : s.endCycle.errorCode = s.errorCode :=
  congrArg Snapshot.errorCode (State.endCycle_snapshot s)
@[simp] theorem State.endCycle_modeDisplay : s.endCycle.modeDisplay = s.modeDisplay :=
  congrArg Snapshot.modeDisplay (State.endCycle_snapshot s)
@[simp] theorem State.endCycle_inPad : s.endCycle.inPad = s.inPad :=
  congrArg Snapshot.pad (State.endCycle_snapshot s)

@[simp] theorem State.clearStrobes_controlWord : s.clearStrobes.controlWord = s.controlWord :=
  congrArg Command.controlWord (State.clearStrobes_outCommand s)
@[simp] theorem State.clearStrobes_targetPosition : s.clearStrobes.targetPosition = s.targetPosition :=
  congrArg Command.targetPosition (State.clearStrobes_outCommand s)
@[simp] theorem State.clearStrobes_targetVelocity : s.clearStrobes.targetVelocity = s.targetVelocity :=
  congrArg Command.targetVelocity (State.clearStrobes_outCommand s)
@[simp] theorem State.clearStrobes_targetTorque : s.clearStrobes.targetTorque = s.targetTorque :=
  congrArg Command.targetTorque (State.clearStrobes_outCommand s)
@[simp] theorem State.clearStrobes_maxTorque : s.clearStrobes.maxTorque = s.maxTorque :=
  congrArg Command.maxTorque (State.clearStrobes_outCommand s)
@[simp] theorem State.clearStrobes_operatingMode : s.clearStrobes.operatingMode = s.operatingMode :=
  congrArg Command.operatingMode (State.clearStrobes_outCommand s)
@[simp] theorem State.clearStrobes_outPad : s.clearStrobes.outPad = s.outPad :=
  congrArg Command.pad (State.clearStrobes_outCommand s)

@[simp] theorem State.countCycle_controlWord : s.countCycle.controlWord = s.controlWord :=
  congrArg Command.controlWord (State.countCycle_outCommand s)
@[simp] theorem State.countCycle_targetPosition : s.countCycle.targetPosition = s.targetPosition :=
  congrArg Command.targetPosition (State.countCycle_outCommand s)
@[simp] theorem State.countCycle_targetVelocity : s.countCycle.targetVelocity = s.targetVelocity :=
  congrArg Command.targetVelocity (State.countCycle_outCommand s)
@[simp] theorem State.countCycle_targetTorque : s.countCycle.targetTorque = s.targetTorque :=
  congrArg Command.targetTorque (State.countCycle_outCommand s)
@[simp] theorem State.countCycle_maxTorque : s.countCycle.maxTorque = s.maxTorque :=
  congrArg Command.maxTorque (State.countCycle_outCommand s)
@[simp] theorem State.countCycle_operatingMode : s.countCycle.operatingMode = s.operatingMode :=
  congrArg Command.operatingMode (State.countCycle_outCommand s)
@[simp] theorem State.countCycle_outPad : s.countCycle.outPad = s.outPad :=
  congrArg Command.pad (State.countCycle_outCommand s)

@[simp] theorem State.enterDrain_controlWord : s.enterDrain.controlWord = s.controlWord :=
  congrArg Command.controlWord (State.enterDrain_outCommand s)
@[simp] theorem State.enterDrain_targetPosition : s.enterDrain.targetPosition = s.targetPosition :=
  congrArg Command.targetPosition (State.enterDrain_outCommand s)
@[simp] theorem State.enterDrain_targetVelocity : s.enterDrain.targetVelocity = s.targetVelocity :=
  congrArg Command.targetVelocity (State.enterDrain_outCommand s)
@[simp] theorem State.enterDrain_targetTorque : s.enterDrain.targetTorque = s.targetTorque :=
  congrArg Command.targetTorque (State.enterDrain_outCommand s)
@[simp] theorem State.enterDrain_maxTorque : s.enterDrain.maxTorque = s.maxTorque :=
  congrArg Command.maxTorque (State.enterDrain_outCommand s)
@[simp] theorem State.enterDrain_operatingMode : s.enterDrain.operatingMode = s.operatingMode :=
  congrArg Command.operatingMode (State.enterDrain_outCommand s)
@[simp] theorem State.enterDrain_outPad : s.enterDrain.outPad = s.outPad :=
  congrArg Command.pad (State.enterDrain_outCommand s)

@[simp] theorem State.requestStop_controlWord : s.requestStop.controlWord = s.controlWord :=
  congrArg Command.controlWord (State.requestStop_outCommand s)
@[simp] theorem State.requestStop_targetPosition : s.requestStop.targetPosition = s.targetPosition :=
  congrArg Command.targetPosition (State.requestStop_outCommand s)
@[simp] theorem State.requestStop_targetVelocity : s.requestStop.targetVelocity = s.targetVelocity :=
  congrArg Command.targetVelocity (State.requestStop_outCommand s)
@[simp] theorem State.requestStop_targetTorque : s.requestStop.targetTorque = s.targetTorque :=
  congrArg Command.targetTorque (State.requestStop_outCommand s)
@[simp] theorem State.requestStop_maxTorque : s.requestStop.maxTorque = s.maxTorque :=
  congrArg Command.maxTorque (State.requestStop_outCommand s)
@[simp] theorem State.requestStop_operatingMode : s.requestStop.operatingMode = s.operatingMode :=
  congrArg Command.operatingMode (State.requestStop_outCommand s)
@[simp] theorem State.requestStop_outPad : s.requestStop.outPad = s.outPad :=
  congrArg Command.pad (State.requestStop_outCommand s)

@[simp] theorem State.enterLoop_controlWord : s.enterLoop.controlWord = s.controlWord :=
  congrArg Command.controlWord (State.enterLoop_outCommand s)
@[simp] theorem State.enterLoop_targetPosition : s.enterLoop.targetPosition = s.targetPosition :=
  congrArg Command.targetPosition (State.enterLoop_outCommand s)
@[simp] theorem State.enterLoop_targetVelocity : s.enterLoop.targetVelocity = s.targetVelocity :=
  congrArg Command.targetVelocity (State.enterLoop_outCommand s)
@[simp] theorem State.enterLoop_targetTorque : s.enterLoop.targetTorque = s.targetTorque :=
  congrArg Command.targetTorque (State.enterLoop_outCommand s)
@[simp] theorem State.enterLoop_maxTorque : s.enterLoop.maxTorque = s.maxTorque :=
  congrArg Command.maxTorque (State.enterLoop_outCommand s)
@[simp] theorem State.enterLoop_operatingMode : s.enterLoop.operatingMode = s.operatingMode :=
  congrArg Command.operatingMode (State.enterLoop_outCommand s)
@[simp] theorem State.enterLoop_outPad : s.enterLoop.outPad = s.outPad :=
  congrArg Command.pad (State.enterLoop_outCommand s)

@[simp] theorem State.raiseStartupFailure_controlWord : s.raiseStartupFailure.controlWord = s.controlWord :=
  congrArg Command.controlWord (State.raiseStartupFailure_outCommand s)
@[simp] theorem State.raiseStartupFailure_targetPosition : s.raiseStartupFailure.targetPosition = s.targetPosition :=
  congrArg Command.targetPosition (State.raiseStartupFailure_outCommand s)
@[simp] theorem State.raiseStartupFailure_targetVelocity : s.raiseStartupFailure.targetVelocity = s.targetVelocity :=
  congrArg Command.targetVelocity (State.raiseStartupFailure_outCommand s)
@[simp] theorem State.raiseStartupFailure_targetTorque : s.raiseStartupFailure.targetTorque = s.targetTorque :=
  congrArg Command.targetTorque (State.raiseStartupFailure_outCommand s)
@[simp] theorem State.raiseStartupFailure_maxTorque : s.raiseStartupFailure.maxTorque = s.maxTorque :=
  congrArg Command.maxTorque (State.raiseStartupFailure_outCommand s)
@[simp] theorem State.raiseStartupFailure_operatingMode : s.raiseStartupFailure.operatingMode = s.operatingMode :=
  congrArg Command.operatingMode (State.raiseStartupFailure_outCommand s)
@[simp] theorem State.raiseStartupFailure_outPad : s.raiseStartupFailure.outPad = s.outPad :=
  congrArg Command.pad (State.raiseStartupFailure_outCommand s)

/-- `DSTATE` follows the record `IN`. -/
theorem State.dstate_congr {s t : State} (h : t.inRec = s.inRec) : t.dstate = s.dstate :=
  congrArg (fun x : Snapshot => dstateOf x.statusWord) (State.snapshot_congr h)

/-! ### The bytes of `OUT` that an operation leaves -/

/-- The writes of an action leave every byte but 0, 1 and 6 to 9. -/
theorem State.command_get (cw : Half) (tv : Word) (k : Nat)
    (h : ¬ (k < 2 ∨ (6 ≤ k ∧ k < 10))) :
    (s.command cw tv).outRec.get k = s.outRec.get k := by
  unfold State.command
  rw [State.setTargetVelocity_outRec, Memory.get_write_other _ _ _ _ _ _ (by omega),
    State.setControlWord_outRec, Memory.get_write_other _ _ _ _ _ _ (by omega)]

/-- REASSERT leaves every byte but 12 to 14. -/
theorem State.reassert_get (k : Nat) (h : ¬ (12 ≤ k ∧ k < 15)) :
    s.reassert.outRec.get k = s.outRec.get k := by
  unfold State.reassert
  rw [State.setOperatingMode_outRec, Memory.get_write_other _ _ _ _ _ _ (by omega),
    State.setMaxTorque_outRec, Memory.get_write_other _ _ _ _ _ _ (by omega)]

/-! ### The canonical form -/

theorem State.command_wf (cw : Half) (tv : Word) (h : s.outRec.wf = true) :
    (s.command cw tv).outRec.wf = true :=
  Memory.wf_write _ _ _ _ (by decide) (Memory.wf_write _ _ _ _ (by decide) h)

theorem State.reassert_wf (h : s.outRec.wf = true) : s.reassert.outRec.wf = true :=
  Memory.wf_write _ _ _ _ (by decide) (Memory.wf_write _ _ _ _ (by decide) h)

theorem State.exchange_inRec_wf (r : Resp) (h : s.inRec.wf = true) :
    (s.exchange r).inRec.wf = true := by
  cases r with
  | fresh bytes w => exact Memory.wf_ofRecord bytes
  | stale w => exact h

/-- An observer's `MemWrite` keeps the canonical form of both records. -/
theorem State.memWrite_wf {t : State} (sp : Space) (off n : Nat) (v : BitVec (8 * n))
    (h : s.memWrite sp off n v = .ok t) (ho : s.outRec.wf = true) (hi : s.inRec.wf = true) :
    t.outRec.wf = true ∧ t.inRec.wf = true := by
  unfold State.memWrite at h
  split at h
  · next hr =>
    have hr' : off + n ≤ 16 := by simpa [inRange] using hr
    cases sp <;> cases h
    · exact ⟨Memory.wf_write _ _ _ _ hr' ho, hi⟩
    · exact ⟨ho, Memory.wf_write _ _ _ _ hr' hi⟩
  · cases h

/-! ### The exchange -/

/-- A fresh response is the Input Snapshot afterwards. -/
theorem State.exchange_fresh_snapshot (r : Record) (w : Half) :
    (s.exchange (.fresh r w)).snapshot = decodeSnapshot r := by
  simp only [State.snapshot, decodeSnapshot, Snapshot.mk.injEq]
  refine ⟨?_, ?_, ?_, ?_, ?_, ?_, ?_⟩ <;> exact Memory.read_ofRecord _ _ _ _ (by decide)

/-- A timeout leaves the Input Snapshot. -/
theorem State.exchange_stale_snapshot (w : Half) :
    (s.exchange (.stale w)).snapshot = s.snapshot := rfl

/-! ### What an outcome that is a next state comes from -/

theorem andThen_eq_next {σ τ : Type} {r : Host.Outcome σ Fault Refusal}
    {f : σ → Host.Outcome τ Fault Refusal} {t : τ} (h : andThen r f = .next t) :
    ∃ u, r = .next u ∧ f u = .next t := by
  cases r with
  | next u => exact ⟨u, rfl, h⟩
  | fault e => cases h
  | refused e => cases h

/-- With `STRICT_STATUS = false` a result stands. -/
theorem State.permissive_of_false (r : Result) (h : s.params.strictStatus = false) :
    s.permissive r = r := by
  rw [State.permissive, h]; rfl

/-- With `STRICT_STATUS = true` nothing but the refusal is answered. -/
theorem State.permissive_of_true (r : Result) (h : s.params.strictStatus = true) :
    s.permissive r = .refused .strictStatus := by
  rw [State.permissive, h]; rfl

/-- A next state comes from `STRICT_STATUS = false` and from the result that stands. -/
theorem State.permissive_eq_next {s t : State} {r : Result} (h : s.permissive r = .next t) :
    s.params.strictStatus = false ∧ r = .next t := by
  unfold State.permissive at h
  split at h
  · cases h
  · next hs => exact ⟨by simpa using hs, h⟩

@[simp] theorem andThen_next {σ τ : Type} (s : σ) (f : σ → Host.Outcome τ Fault Refusal) :
    andThen (.next s) f = f s := rfl

end Sys2Proof.Machine
end

