-- ==== Sys2Proof/Laws/PerInstr.lean ====
section
/-! SUPPORT. Statements about every instruction as syntax, one lemma per constructor of `Instr`. -/

namespace Sys2Proof.Laws.RoundTrip

/-- Decoding the code of a well-formed instruction gives it back. -/
def Statement (i : Instr) : Prop := WellFormed i = true → decode (encode i) = .ok i

theorem freset : Statement .freset := fun _ => by decide
theorem shutdn : Statement .shutdn := fun _ => by decide
theorem swon : Statement .swon := fun _ => by decide
theorem enop : Statement .enop := fun _ => by decide
theorem runa : Statement .runa := fun _ => by decide
theorem runb : Statement .runb := fun _ => by decide
theorem keep (statusWord : Half) : Statement (.keep statusWord) := fun h => by
  simp only [encode, decode]
  rw [decodeStatus_of_not_listed statusWord (by simpa [WellFormed] using h)]
theorem start : Statement .start := fun _ => by decide
theorem sfail : Statement .sfail := fun _ => by decide
theorem cycle : Statement .cycle := fun _ => by decide
theorem stop : Statement .stop := fun _ => by decide
theorem drainc : Statement .drainc := fun _ => by decide
theorem stopreq : Statement .stopreq := fun _ => by decide

end Sys2Proof.Laws.RoundTrip
end

