-- ==== Sys2Proof/Laws/Step.lean ====
section
/-! SUPPORT. What a decision, a cycle and a step can answer, once each. -/

namespace Sys2Proof.Machine

/-! ### What each instruction answers -/

variable (s : State)

@[simp] theorem exec_freset : exec .freset s = .next (s.command 0x0080 0) := rfl
@[simp] theorem exec_shutdn : exec .shutdn s = .next (s.command 0x0006 0) := rfl
@[simp] theorem exec_swon : exec .swon s = .next (s.command 0x0007 0) := rfl
@[simp] theorem exec_enop : exec .enop s = .next (s.command 0x000F 0) := rfl
@[simp] theorem exec_runa : exec .runa s = .next (s.command 0x000F s.tvSet).latch := rfl
@[simp] theorem exec_runb : exec .runb s = .next (s.command 0x000F s.tvSet).latch := rfl
@[simp] theorem exec_keep (sw : Half) : exec (.keep sw) s = s.permissive (.next s) := rfl
@[simp] theorem exec_start : exec .start s = .next s.enterLoop := rfl
@[simp] theorem exec_sfail : exec .sfail s = .next s.raiseStartupFailure := rfl
@[simp] theorem exec_cycle : exec .cycle s = execCycle s := rfl
@[simp] theorem exec_stop : exec .stop s = .next s.clearStrobes.enterDrain := rfl
@[simp] theorem exec_drainc : exec .drainc s =
    .next ((s.zeroCommand.reassert.exchange s.input.resp).countDrain) := rfl
@[simp] theorem exec_stopreq : exec .stopreq s = .next s.requestStop := rfl

/-! ### What a decision, a cycle and a step can answer -/

/-- DECIDE is `exec` of the decoded status word. -/
theorem runDecide_eq_exec : runDecide s = exec (decodeStatus s.statusWord) s := by
  rw [decodeStatus_eq]
  unfold runDecide
  split_ifs <;> rfl

/-- What DECIDE can answer as a next state (41_decision_engine.md R151). -/
theorem runDecide_cases {s t : State} (h : runDecide s = .next t) :
    (∃ cw tv, dstateOf s.statusWord ≠ .operationEnabled ∧
      commandOf (dstateOf s.statusWord) s.tvSet = some (cw, tv) ∧ t = s.command cw tv) ∨
    (dstateOf s.statusWord = .operationEnabled ∧ t = (s.command 0x000F s.tvSet).latch) ∨
    (dstateOf s.statusWord = .unrecognized ∧ s.params.strictStatus = false ∧ t = s) := by
  unfold runDecide at h
  unfold dstateOf
  split_ifs at h ⊢
  · cases h; exact Or.inl ⟨_, _, by decide, rfl, rfl⟩
  · cases h; exact Or.inl ⟨_, _, by decide, rfl, rfl⟩
  · cases h; exact Or.inl ⟨_, _, by decide, rfl, rfl⟩
  · cases h; exact Or.inl ⟨_, _, by decide, rfl, rfl⟩
  · cases h; exact Or.inr (Or.inl ⟨rfl, rfl⟩)
  · cases h; exact Or.inr (Or.inl ⟨rfl, rfl⟩)
  · obtain ⟨hs, h⟩ := State.permissive_eq_next h
    cases h; exact Or.inr (Or.inr ⟨rfl, hs, rfl⟩)

/-- The fields that no decision touches. -/
theorem runDecide_frame {s t : State} (h : runDecide s = .next t) :
    t.phase = s.phase ∧ t.drainCount = s.drainCount ∧ t.cycleCount = s.cycleCount ∧
    t.tvSet = s.tvSet ∧ t.wkc = s.wkc ∧ t.runFlag = s.runFlag ∧ t.inRec = s.inRec ∧
    t.report = s.report ∧ t.exOut = s.exOut ∧ t.params = s.params ∧ t.pending = s.pending ∧
    t.draws = s.draws := by
  rcases runDecide_cases h with ⟨cw, tv, _, _, rfl⟩ | ⟨_, rfl⟩ | ⟨_, _, rfl⟩ <;> simp

/-- A decision is a next state unless a strict mode meets an unrecognized status. -/
theorem runDecide_completes (s : State)
    (h : s.params.strictStatus = true → s.dstate ≠ .unrecognized) : ∃ t, runDecide s = .next t := by
  unfold State.dstate dstateOf at h
  unfold runDecide
  split_ifs at h ⊢ <;> first | exact ⟨_, rfl⟩ | skip
  have hs : s.params.strictStatus = false := by
    cases hc : s.params.strictStatus
    · rfl
    · exact absurd rfl (h hc)
  exact ⟨s, State.permissive_of_false _ _ hs⟩

/-- What a CYCLE that answers a next state did (40_cyclic_exchange.md R125). -/
theorem execCycle_cases {s t : State} (h : execCycle s = .next t) :
    ∃ u, runDecide s.beginCycle = .next u ∧ t = u.endCycle := by
  obtain ⟨u, hu, ht⟩ := andThen_eq_next h
  cases ht
  exact ⟨u, hu, rfl⟩

/-- With `STRICT_STATUS = true` every step is refused (41_decision_engine.md R164). -/
theorem step_strict {s : State} (h : s.params.strictStatus = true) : step s = .refused .strictStatus :=
  State.permissive_of_true s _ h

/-- A step executes the selected instruction. -/
theorem step_of_select {s : State} {i : Instr} (hs : s.params.strictStatus = false)
    (h : selectOp s.selector = .ok i) :
    step s = andThen (exec i s.beginStep) (fun t => .next t.advance) := by
  unfold step
  rw [State.permissive_of_false _ _ hs, h]

/-- Where no operation is selected a step waits. -/
theorem step_of_none {s : State} {e : Reject} (hs : s.params.strictStatus = false)
    (h : selectOp s.selector = .error e) : step s = .next s.beginStep.advance := by
  unfold step
  rw [State.permissive_of_false _ _ hs, h]

/-- No step answers a next state in a strict configuration. -/
theorem step_permissive {s t : State} (h : step s = .next t) : s.params.strictStatus = false :=
  (State.permissive_eq_next h).1

/-- What a step that answers a next state did: it waited, or it executed the selected instruction. -/
theorem step_cases {s t : State} (h : step s = .next t) :
    (∃ e, selectOp s.selector = .error e ∧ t = s.beginStep.advance) ∨
    (∃ i u, selectOp s.selector = .ok i ∧ exec i s.beginStep = .next u ∧ t = u.advance) := by
  replace h := (State.permissive_eq_next h).2
  split at h
  · next e he => cases h; exact Or.inl ⟨e, he, rfl⟩
  · next i hi =>
    obtain ⟨u, hu, ht⟩ := andThen_eq_next h
    cases ht
    exact Or.inr ⟨i, u, hi, hu, rfl⟩

end Sys2Proof.Machine
end

