-- ==== Sys2Proof/Machine/Script.lean ====
section
/-! DEFINITION. The stimulus script of 30_encoding.md R105 and R106 run on the machine: one line is one
environment input, an `EX` line is consumed by the next CYCLE or DRAINC, the sequencer takes every step that
needs no input (STOP) by itself, and a trace prints one line per operation. -/

namespace Sys2Proof.Machine

/-- The Input Snapshot of an `EX` line: an omitted `md` is `MODE_CSV` (30_encoding.md R105). -/
def ExFields.snapshot (p : Params) (f : ExFields) : Snapshot where
  statusWord := f.sw
  actualPosition := f.pos
  actualVelocity := f.vel
  actualTorque := f.tq
  errorCode := f.err
  modeDisplay := f.md.getD p.modeCsv
  pad := f.pad

/-- The input ports of the exchange that an `EX` line describes. DESIGN CHOICE (assumption log entry 20): a
stale line without `wkc` takes `WKC_EXPECTED`, the default that 30_encoding.md R105 gives an omitted `wkc`,
although program P4(a) of 95_test_vectors.md ends with `WKC = 0`. -/
def exInputs (p : Params) : ExLine → Inputs
  | .fresh f => ⟨false, false, false, true, encodeSnapshot (ExFields.snapshot p f),
      f.wkc.getD p.wkcExpected⟩
  | .stale wkc => ⟨false, false, false, false, 0, wkc.getD p.wkcExpected⟩

/-- The input ports of the step that a START line describes. -/
def startInputs (op : Bool) : Inputs := ⟨true, op, false, false, 0, 0⟩

/-- The input ports that a STOPREQ line describes. -/
def stopreqInputs : Inputs := ⟨false, false, true, false, 0, 0⟩

/-- The input ports of a step that needs no input. -/
def noInputs : Inputs := ⟨false, false, false, false, 0, 0⟩

/-! ### The trace -/

/-- The line that a trace prints for an operation (30_encoding.md R105): the mnemonic of the operation, for
a CYCLE that of the action, the command, and the names of the registers that changed. -/
structure TraceLine where
  operation : String
  action : Option String
  cw : Half
  tv : Word
  changed : List String
  deriving DecidableEq, Repr

/-- The registers of 10_state.md R20 that differ between two states. -/
def changedRegisters (s t : State) : List String :=
  ([("PHASE", decide (s.phase ≠ t.phase)), ("DRAIN_COUNT", decide (s.drainCount ≠ t.drainCount)),
    ("CYCLE_COUNT", decide (s.cycleCount ≠ t.cycleCount)), ("TV_SET", decide (s.tvSet ≠ t.tvSet)),
    ("START_POS", decide (s.startPos ≠ t.startPos)),
    ("MOTOR_ENABLED", decide (s.motorEnabled ≠ t.motorEnabled)),
    ("RUN_FLAG", decide (s.runFlag ≠ t.runFlag)), ("WKC", decide (s.wkc ≠ t.wkc)),
    ("OUT", decide (s.outRec ≠ t.outRec)), ("IN", decide (s.inRec ≠ t.inRec))].filter
      fun x => x.2).map fun x => x.1

/-- The trace line of the step from a state; none where the step table has no operation. -/
def State.traceLine (s : State) : Option TraceLine :=
  match selectOp s.selector, step s with
  | .ok i, .next t => some
      { operation := i.mnemonic
        action := if i = .cycle then some (decodeStatus t.statusWord).mnemonic else none
        cw := t.controlWord
        tv := t.targetVelocity
        changed := changedRegisters s t }
  | _, _ => none

/-! ### A script under way -/

/-- A script under way: the machine, the `EX` lines that no CYCLE or DRAINC has consumed yet, the oldest
first, and the trace so far. -/
structure ScriptRun where
  state : State
  waiting : List ExLine
  trace : List TraceLine
  deriving DecidableEq, Repr

/-- What running a script answers: a run, or the first fault or refusal. -/
abbrev ScriptResult := Host.Outcome ScriptRun Fault Refusal

/-- One step of the machine whose input ports carry `x`, with its line in the trace. -/
def ScriptRun.stepWith (r : ScriptRun) (x : Inputs) : ScriptResult :=
  let s : State := { r.state with pending := x :: r.state.pending }
  andThen (step s) fun t => .next { r with state := t, trace := r.trace ++ s.traceLine.toList }

/-- The step that the sequencer takes by itself: STOP, where it is the next operation. -/
def ScriptRun.takeOwnStop (r : ScriptRun) : ScriptResult :=
  if r.state.stopPending then r.stepWith noInputs else .next r

/-- The next operation is a CYCLE or a DRAINC, which consumes an `EX` line. -/
def State.exchangeIsNext (s : State) : Bool :=
  decide (s.phase = .run) && s.runFlag || decide (s.phase = .drain)

/-- Every waiting `EX` line is consumed by a CYCLE or a DRAINC, as long as one is the next operation; the
others go on waiting. Omitted fields take the parameters of that moment (assumption log entry 18). -/
def ScriptRun.consume : List ExLine → ScriptRun → ScriptResult
  | [], r => .next { r with waiting := [] }
  | l :: rest, r =>
    if r.state.exchangeIsNext then
      andThen (r.stepWith (exInputs r.state.params l)) fun u => ScriptRun.consume rest u
    else .next { r with waiting := l :: rest }

/-- Everything that needs no further line: the sequencer's own STOP, then the waiting `EX` lines. That STOP
is taken as soon as it is the next operation is DEDUCED (assumption log entry 21). -/
def ScriptRun.settle (r : ScriptRun) : ScriptResult :=
  andThen r.takeOwnStop fun t => ScriptRun.consume t.waiting t

/-- One line of a script: `CONFIG` is the host's write, START the step of phase IDLE (in another phase it has
no step and changes nothing, assumption log entry 18), STOPREQ the host's event; an `EX` line begins to
wait for its exchange. -/
def ScriptRun.takeLine (r : ScriptRun) : Line → ScriptResult
  | .config items => andThen (r.state.configureLine items) fun t => .next { r with state := t }
  | .start op => if r.state.phase = .idle then r.stepWith (startInputs op) else .next r
  | .ex l => .next { r with waiting := r.waiting ++ [l] }
  | .stopreq => r.stepWith stopreqInputs

/-- The lines of a script in their order, settled before each line and at the end. -/
def ScriptRun.takeLines : List Line → ScriptRun → ScriptResult
  | [], r => r.settle
  | l :: rest, r =>
    andThen r.settle fun t => andThen (t.takeLine l) fun u => ScriptRun.takeLines rest u

/-- A script run from a state: the state it ends in, the `EX` lines that were never consumed, and the
trace (30_encoding.md R105). -/
def State.runScript (s : State) (lines : List Line) : ScriptResult :=
  ScriptRun.takeLines lines ⟨s, [], []⟩

/-- The pseudo-line `EX*n` (30_encoding.md R106). -/
def exTimes (n : Nat) (f : ExFields) : List Line := List.replicate n (.ex (.fresh f))

/-- The pseudo-line `DRAIN` (30_encoding.md R106). -/
def drainLines : List Line := List.replicate Config.drainCycles (.ex (.stale none))

end Sys2Proof.Machine
end

