-- ==== Sys2Proof/Laws/Script.lean ====
section
/-! SUPPORT. What running a script can answer (30_encoding.md R105). -/

namespace Sys2Proof.Machine

/-- After a step of the entered loop in which the host requests no stop, STOP is not the next operation. -/
theorem step_stopPending {s t : State} (h : step s = .next t) (hi : s.input.stopReq = false)
    (hp : s.phase ≠ .idle) : t.stopPending = false := by
  rcases step_cases h with ⟨e, he, rfl⟩ | ⟨i, u, hs, hu, rfl⟩
  · rcases (selectOp_error_cases he).2 with ⟨h, -⟩ | h | h
    · exact absurd h hp
    all_goals
      have h : s.phase = _ := h
      simp [State.stopPending, h]
  · rcases selectOp_cases hs with ⟨h, -⟩ | ⟨-, h, -⟩ | ⟨-, h, -⟩ | ⟨-, -, hr, rfl⟩ | ⟨-, -, -, rfl⟩ |
      ⟨-, hd, rfl⟩
    · exact Bool.noConfusion (hi.symm.trans h)
    · exact absurd h hp
    · exact absurd h hp
    · obtain ⟨v, hv, rfl⟩ := execCycle_cases (s := s.beginStep) hu
      obtain ⟨-, -, -, -, -, hf, -⟩ := runDecide_frame hv
      have hr : s.runFlag = true := hr
      simp [State.stopPending, hf, hr]
    · cases hu; simp [State.stopPending]
    · cases hu
      have hd : s.phase = .drain := hd
      simp only [State.stopPending, State.advance_phase, State.countDrain_phase]
      split_ifs <;> simp [hd]

/-- A script has nothing left that needs no further line: STOP is not the next operation, and an `EX` line
waits only where the next operation is no exchange. -/
def ScriptRun.Settled (r : ScriptRun) : Prop :=
  r.state.stopPending = false ∧ (r.waiting ≠ [] → r.state.exchangeIsNext = false)

/-- What a step of a script answers. -/
theorem ScriptRun.stepWith_cases {r t : ScriptRun} {x : Inputs} (h : r.stepWith x = .next t) :
    ∃ s : State, s = { r.state with pending := x :: r.state.pending } ∧
      step s = .next t.state ∧ t.waiting = r.waiting ∧ t.trace = r.trace ++ s.traceLine.toList := by
  obtain ⟨u, hu, ht⟩ := andThen_eq_next h
  cases ht
  exact ⟨_, rfl, hu, rfl, rfl⟩

/-- A step of the entered loop that a script feeds without a stop request leaves no STOP to take. -/
theorem ScriptRun.stepWith_stopPending {r t : ScriptRun} {x : Inputs} (h : r.stepWith x = .next t)
    (hx : x.stopReq = false) (hp : r.state.phase ≠ .idle) : t.state.stopPending = false := by
  obtain ⟨s, rfl, hs, -, -⟩ := ScriptRun.stepWith_cases h
  exact step_stopPending hs hx hp

/-- Consuming the waiting lines ends settled. -/
theorem ScriptRun.consume_settled : ∀ (l : List ExLine) {r t : ScriptRun},
    r.state.stopPending = false → ScriptRun.consume l r = .next t → t.Settled
  | [], r, t, hr, h => by cases h; exact ⟨hr, fun h => absurd rfl h⟩
  | x :: l, r, t, hr, h => by
    unfold ScriptRun.consume at h
    split at h
    · next he =>
      obtain ⟨u, hu, ht⟩ := andThen_eq_next h
      refine ScriptRun.consume_settled l (ScriptRun.stepWith_stopPending hu ?_ ?_) ht
      · cases x <;> rfl
      · intro hp; rw [State.exchangeIsNext, hp] at he; exact absurd he (by simp)
    · next he => cases h; exact ⟨hr, fun _ => by simpa using he⟩

/-- Settling ends settled. -/
theorem ScriptRun.settle_settled {r t : ScriptRun} (h : r.settle = .next t) : t.Settled := by
  obtain ⟨u, hu, ht⟩ := andThen_eq_next h
  refine ScriptRun.consume_settled _ ?_ ht
  unfold ScriptRun.takeOwnStop at hu
  split at hu
  · next hp =>
    refine ScriptRun.stepWith_stopPending hu rfl fun hi => ?_
    rw [State.stopPending, hi] at hp; exact absurd hp (by simp)
  · next hp => cases hu; simpa using hp

/-- A script ends settled: every STOP that needs no input has been taken, and no `EX` line waits for a CYCLE
or a DRAINC that is the next operation. -/
theorem ScriptRun.takeLines_settled : ∀ (l : List Line) {r t : ScriptRun},
    ScriptRun.takeLines l r = .next t → t.Settled
  | [], _, _, h => ScriptRun.settle_settled h
  | _ :: l, _, _, h => by
    obtain ⟨u, -, h⟩ := andThen_eq_next h
    obtain ⟨v, -, h⟩ := andThen_eq_next h
    exact ScriptRun.takeLines_settled l h

end Sys2Proof.Machine
end

