-- ==== Sys2Proof/Machine/ScriptText.lean ====
section
/-! DEFINITION. The text of the stimulus script (30_encoding.md R105, R106): the grammar of a line and the
expansion of the pseudo-lines. -/

namespace Sys2Proof.Machine

/-! ### Words and numbers -/

/-- The value of a digit in a base of at most 16. -/
def digitOf (base : Nat) (c : Char) : Option Nat :=
  let v :=
    if '0' ≤ c ∧ c ≤ '9' then c.toNat - '0'.toNat
    else if 'a' ≤ c ∧ c ≤ 'f' then c.toNat - 'a'.toNat + 10
    else if 'A' ≤ c ∧ c ≤ 'F' then c.toNat - 'A'.toNat + 10
    else 16
  if v < base then some v else none

/-- A number without sign, continued from the digits already read. -/
def natFrom (base acc : Nat) : List Char → Option Nat
  | [] => some acc
  | c :: rest =>
    match digitOf base c with
    | some d => natFrom base (base * acc + d) rest
    | none => none

/-- A number of at least one digit. -/
def natText (base : Nat) : List Char → Option Nat
  | [] => none
  | c :: rest => natFrom base 0 (c :: rest)

/-- A decimal number with an optional minus sign. -/
def intText : List Char → Option Int
  | '-' :: rest => (natText 10 rest).map fun n => -(n : Int)
  | cs => (natText 10 cs).map Int.ofNat

/-- The words `u16`, `u64` and a positive integer of the grammar: decimal and below a bound. -/
def unsignedText (w : Nat) (cs : List Char) : Option (BitVec w) :=
  (natText 10 cs).bind fun n => if n < 2 ^ w then some (BitVec.ofNat w n) else none

/-- The words `hex16` and `hex8` of the grammar. -/
def hexText (w : Nat) : List Char → Option (BitVec w)
  | '0' :: 'x' :: rest =>
    (natText 16 rest).bind fun n => if n < 2 ^ w then some (BitVec.ofNat w n) else none
  | _ => none

/-- The words `s8`, `s16` and `s32` of the grammar (00_scope.md R11). -/
def signedText (w : Nat) (cs : List Char) : Option (BitVec w) :=
  (intText cs).bind fun i =>
    if -(2 : Int) ^ (w - 1) ≤ i ∧ i < (2 : Int) ^ (w - 1) then some (BitVec.ofInt w i) else none

/-- A text cut at every occurrence of a character. -/
def cutAt (sep : Char) : List Char → List (List Char)
  | [] => [[]]
  | c :: rest =>
    if c = sep then [] :: cutAt sep rest
    else
      match cutAt sep rest with
      | [] => [[c]]
      | w :: ws => (c :: w) :: ws

/-- The words of a line. -/
def wordsOf (cs : List Char) : List (List Char) := (cutAt ' ' cs).filter fun w => !w.isEmpty

/-- A `name=value` word. -/
def itemOf (cs : List Char) : Option (String × List Char) :=
  match cutAt '=' cs with
  | [name, value] => some (String.ofList name, value)
  | _ => none

/-! ### The items -/

/-- A rational number `n` or `n/d`. -/
def ratText (cs : List Char) : Option Rat :=
  match cutAt '/' cs with
  | [n] => (intText n).map fun i => (i : Rat)
  | [n, d] =>
    match intText n, natText 10 d with
    | some i, some k => if k = 0 then none else some ((i : Rat) / (k : Rat))
    | _, _ => none
  | _ => none

/-- A positive integer. -/
def positiveText (cs : List Char) : Option Nat :=
  (natText 10 cs).bind fun n => if 0 < n then some n else none

/-- A `name=value` of a `CONFIG` line: a parameter of 00_scope.md R8 that the host may set, or `RPM`
(30_encoding.md R106). `DRAIN_CYCLES` is "not configurable" (R8) and `BYTE_ORDER` cannot be switched
(20_memory.md R63). DESIGN CHOICE (assumption log entry 18): `CYCLE_PERIOD` and `EXCHANGE_TIMEOUT`, which R8
lists as "timing only, no rule depends on it", are not admitted either. -/
def configText (cs : List Char) : Option ConfigItem :=
  match itemOf cs with
  | none => none
  | some (name, v) =>
    if name = "TARGET_VEL" then (signedText 32 v).map .targetVel
    else if name = "MODE_CSV" then (signedText 8 v).map .modeCsv
    else if name = "MAX_TORQUE" then (unsignedText 16 v).map .maxTorque
    else if name = "RESOLUTION" then (positiveText v).map .resolution
    else if name = "REPORT_PERIOD" then (positiveText v).map .reportPeriod
    else if name = "MOVE_THRESHOLD" then (positiveText v).map .moveThreshold
    else if name = "WKC_EXPECTED" then (unsignedText 16 v).map .wkcExpected
    else if name = "STRICT_STATUS" then
      if String.ofList v = "true" then some (.strictStatus true)
      else if String.ofList v = "false" then some (.strictStatus false)
      else none
    else if name = "RPM" then (ratText v).map .rpm
    else none

/-- A `field` of an `EX` line, put into the fields read so far. -/
def fieldText (f : ExFields) (cs : List Char) : Option ExFields :=
  match itemOf cs with
  | none => none
  | some (name, v) =>
    if name = "sw" then (hexText 16 v).map fun x => { f with sw := x }
    else if name = "pos" then (signedText 32 v).map fun x => { f with pos := x }
    else if name = "vel" then (signedText 32 v).map fun x => { f with vel := x }
    else if name = "tq" then (signedText 16 v).map fun x => { f with tq := x }
    else if name = "err" then (hexText 16 v).map fun x => { f with err := x }
    else if name = "md" then (signedText 8 v).map fun x => { f with md := some x }
    else if name = "pad" then (hexText 8 v).map fun x => { f with pad := x }
    else if name = "wkc" then (unsignedText 16 v).map fun x => { f with wkc := some x }
    else none

/-- Every word of a list, or nothing. -/
def allText {α : Type} (f : List Char → Option α) : List (List Char) → Option (List α)
  | [] => some []
  | w :: ws =>
    match f w, allText f ws with
    | some a, some rest => some (a :: rest)
    | _, _ => none

/-- The fields of an `EX` line from the left. -/
def fieldsText (f : ExFields) : List (List Char) → Option ExFields
  | [] => some f
  | w :: ws => (fieldText f w).bind fun g => fieldsText g ws

/-! ### The lines -/

/-- The optional `wkc=` of an `EX stale` line. -/
def staleText : List (List Char) → Option ExLine
  | [] => some (.stale none)
  | [w] =>
    match itemOf w with
    | some ("wkc", v) => (unsignedText 16 v).map fun x => .stale (some x)
    | _ => none
  | _ => none

/-- An `EX` line with at least one field, or `EX stale`. -/
def exText : List (List Char) → Option ExLine
  | [] => none
  | w :: ws => if String.ofList w = "stale" then staleText ws else (fieldsText {} (w :: ws)).map .fresh

/-- One line of a script (30_encoding.md R105) as the lines it expands to (R106); nothing if the grammar
does not admit it. An empty line expands to nothing. -/
def lineText (cs : List Char) : Option (List Line) :=
  match wordsOf cs with
  | [] => some []
  | w :: ws =>
    if String.ofList w = "CONFIG" then (allText configText ws).map fun items => [.config items]
    else if String.ofList w = "START" then
      match ws.map String.ofList with
      | [] => some [.start true]
      | ["op=0"] => some [.start false]
      | ["op=1"] => some [.start true]
      | _ => none
    else if String.ofList w = "EX" then (exText ws).map fun l => [.ex l]
    else if String.ofList w = "STOPREQ" then if ws.isEmpty then some [.stopreq] else none
    else if String.ofList w = "DRAIN" then if ws.isEmpty then some drainLines else none
    else
      match w with
      | 'E' :: 'X' :: '*' :: n =>
        match natText 10 n, fieldsText {} ws with
        | some k, some f => if ws.isEmpty then none else some (exTimes k f)
        | _, _ => none
      | _ => none

/-- A script as its lines. -/
def scriptText (lines : List String) : Option (List Line) :=
  (allText lineText (lines.map String.toList)).map List.flatten

/-- A script given as text, run from a state; nothing if the grammar does not admit it. -/
def State.runScriptText (s : State) (lines : List String) : Option ScriptResult :=
  (scriptText lines).map s.runScript

end Sys2Proof.Machine
end

