-- ==== Sys2Proof/Tests/Slice0.lean ====
section
/-! SUPPORT. Tests on fixed values, taken from 95_test_vectors.md, and for every statement with hypotheses
a state and operands that meet them. -/

namespace Sys2Proof.Tests

open Sys2Proof Sys2Proof.Machine

/-! ### Small states -/

/-- After reset, with the parameters of 95_test_vectors.md. -/
def base : State := { State.reset with params := Params.reference 21845 1000 1 }

/-- The same in a strict mode. -/
def strict : State := { base with params := { base.params with strictStatus := true } }

/-- The input ports with a fresh response: status word, position, `md = 9`, `wkc = 1`. -/
def fresh (sw : Half) (pos : Word) : Inputs :=
  ⟨false, false, false, true, encodeSnapshot ⟨sw, pos, 0, 0, 0, 9, 0⟩, 1⟩

/-- The input ports with a timeout and `wkc = 0`. -/
def stale : Inputs := ⟨false, false, false, false, 0, 0⟩

/-- A state of the loop that commands `cw` and `tv` and receives `x` next. -/
def running (cw : Half) (tv : Word) (x : Inputs) : State :=
  ({ base with phase := .run, tvSet := 21845, pending := [x] } : State).command cw tv

/-- The same with the latch already fired at a position. -/
def enabled (cw : Half) (tv sp : Word) (x : Inputs) : State :=
  { running cw tv x with motorEnabled := true, startPos := sp }

/-- A state of the drain. -/
def draining (n : BitVec 6) (x : Inputs) : State :=
  { running 0x000F 21845 x with phase := .drain, runFlag := false, drainCount := n }

/-- A decided snapshot: the status word and the position stand in `IN`. -/
def holding (sw : Half) (pos : Word) : State := (running 0x000F 21845 stale).exchange (fresh sw pos).resp

/-- The outcome is a next state with a property. -/
def after (r : Result) (p : State → Bool) : Bool :=
  match r with
  | .next t => p t
  | .fault _ => false
  | .refused _ => false

/-! ### Well-formedness -/

theorem test_wf_keep_of_a_listed_word : WellFormed (.keep 0x1208) = false := by decide
theorem test_wf_keep_of_the_last_listed_word : WellFormed (.keep 0x1637) = false := by decide
theorem test_wf_keep : WellFormed (.keep 0x1633) = true := by decide
theorem test_wf_params : (Params.reference 21845 1000 1).wf = true := by decide
theorem test_wf_resolution : { Params.reference 21845 1000 1 with resolution := 0 }.wf = false := by
  decide
theorem test_wf_period : { Params.reference 21845 1000 1 with reportPeriod := 0 }.wf = false := by
  decide
theorem test_wf_threshold : { Params.reference 21845 1000 1 with moveThreshold := 0 }.wf = false := by
  decide
theorem test_wf_strict : strict.params.wf = false := by decide
theorem test_wf_config_after_start : scriptWf [.start true, .config []] = false := by decide
theorem test_wf_script : scriptWf [.config [], .start true, .ex (.fresh {})] = true := by decide
theorem test_reset_memory : State.reset.outRec.wf = true ∧ State.reset.inRec.wf = true := by decide

/-! ### Decoding, from words written out by hand -/

/- Status words of 30_encoding.md R94, in binary as 93_implementation_defined.md GK2 writes them. -/
theorem test_decode_freset : decodeStatus 0b0001001000001000 = .freset := by decide
theorem test_decode_shutdn : decodeStatus 0b0001001001010000 = .shutdn := by decide
theorem test_decode_swon : decodeStatus 0b0001001000110001 = .swon := by decide
theorem test_decode_enop : decodeStatus 0b0001001000110011 = .enop := by decide
theorem test_decode_runa : decodeStatus 0b0001001000110111 = .runa := by decide
theorem test_decode_runb : decodeStatus 0b0001011000110111 = .runb := by decide
/- V8, V9 and V10: the reset value, bit 10 set on 0x1233, bit 12 clear on 0x1237. -/
theorem test_decode_keep : decodeStatus 0x0000 = .keep 0x0000 ∧
    decodeStatus 0b0001011000110011 = .keep 0x1633 ∧
    decodeStatus 0b0000001000110111 = .keep 0x0237 := by decide
/- E1, E2, E3 and E4 as bytes. -/
theorem test_decode_bytes_E1 : decodeBytes
    [0x50, 0x12, 0, 0, 0, 0, 0, 0, 0, 0, 0, 0, 0, 0, 9, 0] = .ok .shutdn := by decide
theorem test_decode_bytes_E3 : decodeBytes
    [0x37, 0x16, 0x38, 0xFF, 0xFF, 0xFF, 0, 0, 0, 0, 0, 0, 0, 0, 9, 0] = .ok .runb := by decide
theorem test_decode_short : decodeBytes
    [0x37, 0x12, 0, 0, 0, 0, 0, 0, 0, 0, 0, 0, 0, 0, 9] = .error (.badLength 15) := by decide
/- 30_encoding.md R99. -/
theorem test_decode_start : selectOp ⟨.idle, true, true, true, false⟩ = .ok .start := by decide
theorem test_decode_sfail : selectOp ⟨.idle, true, true, false, false⟩ = .ok .sfail := by decide
theorem test_decode_cycle : selectOp ⟨.run, true, false, false, false⟩ = .ok .cycle := by decide
theorem test_decode_stop : selectOp ⟨.run, false, false, false, false⟩ = .ok .stop := by decide
theorem test_decode_drainc : selectOp ⟨.drain, true, false, false, false⟩ = .ok .drainc := by decide
theorem test_decode_stopreq : selectOp ⟨.halted, true, false, false, true⟩ = .ok .stopreq := by
  decide
theorem test_decode_none : selectOp ⟨.idle, true, false, true, false⟩ = .error .waiting ∧
    selectOp ⟨.halted, true, true, true, false⟩ = .error .halted ∧
    selectOp ⟨.failed, true, true, true, false⟩ = .error .failed := by decide
theorem test_table_words : decodeTableWord 16 0x1208 = some .freset ∧
    decodeTableWord 16 0x1637 = some .runb ∧ decodeTableWord 16 0 = some (.keep 0) := by decide
/- E6, E7, E8 and E11: the Output Command. -/
theorem test_encode_E6 : recordBytes (encodeCommand ⟨0x000F, 0, 21845, 0, 1000, 9, 0⟩) =
    [0x0F, 0, 0, 0, 0, 0, 0x55, 0x55, 0, 0, 0, 0, 0xE8, 0x03, 9, 0] := by decide
theorem test_encode_E7 : recordBytes (encodeCommand ⟨0x000F, 0, -21845, 0, 1000, -1, 0⟩) =
    [0x0F, 0, 0, 0, 0, 0, 0xAB, 0xAA, 0xFF, 0xFF, 0, 0, 0xE8, 0x03, 0xFF, 0] := by decide
/- E10. -/
theorem test_decode_E10 :
    (decodeSnapshot (packRecord [0x37, 0x12, 0xFF, 0xFF, 0xFF, 0x7F, 0, 0, 0, 0x80])).actualPosition.toInt
      = 2147483647 ∧
    (decodeSnapshot (packRecord [0x37, 0x12, 0xFF, 0xFF, 0xFF, 0x7F, 0, 0, 0, 0x80])).actualVelocity.toInt
      = -2147483648 := by decide

/-! ### One step each -/

/-- The command, the latch and the strobe after a step. -/
def shows (cw : Half) (tv : Word) (m : Bool) (sp : Word) (evt : Bool) (t : State) : Bool :=
  t.controlWord == cw && t.targetVelocity == tv && t.motorEnabled == m && t.startPos == sp
    && t.enableEvt == evt && t.maxTorque == 1000 && t.operatingMode == 9 && t.cycleCount == 1

/- 95_test_vectors.md section 2.2. -/
theorem test_V1_freset : after (step (running 0x000F 21845 (fresh 0x1208 0)))
    (shows 0x0080 0 false 0 false) = true := by decide
theorem test_V15_freset : after (step (enabled 0x000F 21845 0 (fresh 0x1208 0)))
    (shows 0x0080 0 true 0 false) = true := by decide
theorem test_V2_shutdn : after (step (running 0 0 (fresh 0x1250 0)))
    (shows 0x0006 0 false 0 false) = true := by decide
theorem test_V3_swon : after (step (running 0x0006 0 (fresh 0x1231 0)))
    (shows 0x0007 0 false 0 false) = true := by decide
theorem test_V4_enop : after (step (running 0x0007 0 (fresh 0x1233 0)))
    (shows 0x000F 0 false 0 false) = true := by decide
theorem test_V5_runa : after (step (running 0x000F 0 (fresh 0x1237 1000)))
    (shows 0x000F 21845 true 1000 true) = true := by decide
theorem test_V12_runa : after (step (enabled 0x000F 21845 1000 (fresh 0x1237 9999)))
    (shows 0x000F 21845 true 1000 false) = true := by decide
theorem test_V6_runb : after (step (running 0x000F 0 (fresh 0x1637 (-200))))
    (shows 0x000F 21845 true (-200) true) = true := by decide
theorem test_V7_keep : after (step (running 0x000F 21845 (fresh 0x1218 5)))
    (shows 0x000F 21845 false 0 false) = true := by decide
theorem test_V9_keep : after (step (running 0x0006 0 (fresh 0x1633 0)))
    (shows 0x0006 0 false 0 false) = true := by decide

/- 95_test_vectors.md section 2.3: X4, the first CYCLE after reset with a timeout, and X5. -/
theorem test_X4_cycle : after (step (running 0 0 stale)) (fun t =>
    t.exOut == some 0 && t.inRec == [] && t.wkc == 0 && t.outRec.bytes ==
      [0, 0, 0, 0, 0, 0, 0, 0, 0, 0, 0, 0, 0xE8, 0x03, 9, 0]) = true := by decide
theorem test_X5_cycle : after (step (running 0x000F 21845 (fresh 0x1250 0)).reassert) (fun t =>
    t.exOut.map recordBytes ==
      some [0x0F, 0, 0, 0, 0, 0, 0x55, 0x55, 0, 0, 0, 0, 0xE8, 0x03, 9, 0] && t.wkc == 1) = true := by
  decide

/- 95_test_vectors.md section 2.4. -/
theorem test_Q1_start : after (step { base with pending := [⟨true, true, false, false, 0, 0⟩] })
    (fun t => t.phase == .run && t.tvSet == 21845 && t.cycleCount == 0 && t.runFlag) = true := by
  decide
theorem test_Q10_sfail : after (step { base with
      runFlag := false, pending := [⟨true, false, false, false, 0, 0⟩] })
    (fun t => t.phase == .failed && t.exitCode == some 1 && t.exOut == none) = true := by decide
theorem test_Q3_stopreq : after (step (running 0 0 ⟨false, false, true, false, 0, 0⟩))
    (fun t => t.phase == .run && !t.runFlag) = true := by decide
theorem test_Q4_stop : after (step { running 0x000F 21845 stale with runFlag := false, cycleCount := 3 })
    (fun t => t.phase == .drain && t.drainCount == 0 && t.cycleCount == 3 && t.exOut == none
      && t.controlWord == 0x000F && t.targetVelocity == 21845) = true := by decide
theorem test_Q5_drainc : after (step (draining 0 (fresh 0x1237 0))) (fun t =>
    t.drainCount == 1 && t.phase == .drain && !t.motorEnabled && t.exOut.map recordBytes ==
      some [0, 0, 0, 0, 0, 0, 0, 0, 0, 0, 0, 0, 0xE8, 0x03, 9, 0]) = true := by decide
theorem test_Q6_drainc : after (step (draining 49 stale)) (fun t =>
    t.drainCount == 50 && t.phase == .halted && t.exitCode == some 0) = true := by decide

/- 41_decision_engine.md R164: START in a strict configuration is refused, and so is the configuration. -/
theorem test_strict_start :
    step { strict with pending := [⟨true, true, false, false, 0, 0⟩] } = .refused .strictStatus := rfl
theorem test_strict_config : 
    base.runScript [.config [.strictStatus true]] = .refused .strictStatus := rfl

/- The host's question: after reset an instruction placed by `withFetchWord` is the first to run. -/
theorem test_withFetchWord : after (step (State.withFetchWord base 16 0x1237))
    (fun t => t.controlWord == 0x000F && t.motorEnabled && t.cycleCount == 1) = true := by decide

/- 42_reporting.md R186, the last cycle of program P5 in 95_test_vectors.md. -/
theorem test_report : after (step { enabled 0x000F 21845 1000 (fresh 0x1237 501000) with
      cycleCount := 499 })
    (fun t => t.report && t.reportRecord.cycle == 500 && t.reportRecord.status == 0x1237
      && t.reportRecord.control == 0x000F && t.reportRecord.delta.toInt == 500000) = true := by decide
theorem test_no_report : after (step { enabled 0x000F 21845 1000 (fresh 0x1237 501000) with
      cycleCount := 498 }) (fun t => !t.report) = true := by decide

/-! ### Reporting -/

/-- A state that has latched at `sp` and sees `pos`. -/
def seeing (m : Bool) (sp pos : Word) : State :=
  { (running 0 0 stale).exchange (fresh 0x1237 pos).resp with motorEnabled := m, startPos := sp }

theorem test_V40 : (seeing true 1000 2000).delta.toInt = 1000 ∧
    (seeing true 1000 2000).moving = false := by decide
theorem test_V43 : (seeing true 1000 (-1)).delta.toInt = -1001 ∧
    (seeing true 1000 (-1)).moving = true := by decide
theorem test_V44 : (seeing false 0 50000).delta.toInt = 50000 ∧
    (seeing false 0 50000).moving = false := by decide
theorem test_V46 : (seeing true 2147483647 (-2147483648)).delta.toInt = -4294967295 ∧
    (seeing true 2147483647 (-2147483648)).moving = true := by decide
theorem test_V47_V52_V53_V54 : pulsesToRpm 131072 21845 = 327675 / 32768 ∧
    rpmToPulses 131072 10 = 21845 ∧ rpmToPulses 131072 1 = 2185 ∧ rpmToPulses 131072 (-1) = -2185 := by
  decide +kernel
theorem test_V57_V58_V59 : rpmToPulses 131072 983039 = 2147481463 ∧
    configureRpm base.params 983040 = .error .targetVelOutOfRange ∧
    rpmToPulses 131072 (15 / 65536) = 1 := by decide +kernel
theorem test_script_defaults : exInputs base.params (.fresh { sw := 0x1237, pos := 1000 }) =
    fresh 0x1237 1000 := by decide
/- Lines of the programs P1, P2 and P3 and of 30_encoding.md R106. -/
theorem test_script_text :
    lineText "CONFIG TARGET_VEL=-21845 MODE_CSV=9 WKC_EXPECTED=1".toList =
      some [.config [.targetVel (-21845), .modeCsv 9, .wkcExpected 1]] ∧
    lineText "EX sw=0x1208 pos=-150 err=0x7500".toList =
      some [.ex (.fresh { sw := 0x1208, pos := -150, err := 0x7500 })] ∧
    lineText "EX stale wkc=0".toList = some [.ex (.stale (some 0))] ∧
    lineText "CONFIG RPM=10".toList = some [.config [.rpm 10]] ∧
    lineText "EX*3 sw=0x1237".toList = some (exTimes 3 { sw := 0x1237 }) ∧
    lineText "EX".toList = none ∧ lineText "EX pos=2147483648".toList = none ∧
    lineText "CONFIG DRAIN_CYCLES=1".toList = none := by decide +kernel
/-- The operations of a script's trace, with its end state and the lines left over. -/
def traced (r : ScriptResult) (p : List (String × Option String) → State → List ExLine → Bool) : Bool :=
  match r with
  | .next t => p (t.trace.map fun x => (x.operation, x.action)) t.state t.waiting
  | .fault _ => false
  | .refused _ => false

/- The beginning of program P4(a) and the middle of P3: the sequencer takes STOP by itself. -/
theorem test_script_stop : traced (base.runScript [.stopreq, .start true, .ex (.stale (some 0))])
    (fun l t w => l == [("STOPREQ", none), ("START", none), ("STOP", none), ("DRAINC", none)] &&
      t.phase == .drain && t.drainCount == 1 && w.isEmpty) = true := by decide +kernel
/- 30_encoding.md R105: an `EX` line met in IDLE is consumed by the next CYCLE, and a STOP that is selected
at the end of a script is taken. -/
theorem test_script_waiting :
    traced (base.runScript [.ex (.fresh { sw := 0x1250 }), .start true, .stopreq])
      (fun l t w => l == [("START", none), ("CYCLE", some "SHUTDN"), ("STOPREQ", none), ("STOP", none)] &&
        t.phase == .drain && w.isEmpty) = true ∧
    traced (base.runScript [.ex (.stale none), .start false])
      (fun l t w => l == [("SFAIL", none)] && t.phase == .failed && w == [.stale none]) = true := by
  decide +kernel
theorem test_trace : (running 0x000F 0 (fresh 0x1237 1000)).traceLine = some
    { operation := "CYCLE", action := some "RUNA", cw := 0x000F, tv := 21845,
      changed := ["CYCLE_COUNT", "START_POS", "MOTOR_ENABLED", "WKC", "OUT", "IN"] } := by
  rfl

/-! ### States and operands that meet the hypotheses of the statements -/

/-- A DECIDE that answers. -/
abbrev decides (s : State) : Prop := ∃ t, runDecide s = .next t

/-- An instruction that answers. -/
abbrev runs (i : Instr) (s : State) : Prop := ∃ t, exec i s = .next t

/-- A step that answers. -/
abbrev steps (s : State) : Prop := ∃ t, step s = .next t

theorem witness_ConstantActionsCommandAndFrame : (holding 0x1208 0).statusWord = 0x1208 ∧
    (holding 0x1250 0).statusWord = 0x1250 ∧ (holding 0x1231 0).statusWord = 0x1231 ∧
    (holding 0x1233 0).statusWord = 0x1233 ∧ ¬ commandByte 2 ∧ ¬ commandByte 5 ∧
    ¬ commandByte 10 := by
  refine ⟨by decide, by decide, by decide, by decide, ?_, ?_, ?_⟩ <;> unfold commandByte <;> omega

theorem witness_RunActionsCommandSetpointAndLatch : (holding 0x1237 5).statusWord = 0x1237 ∧
    (holding 0x1637 5).statusWord = 0x1637 ∧ (holding 0x1237 5).motorEnabled = false ∧
    (seeing true 1000 5).motorEnabled = true := by decide

theorem witness_KeepWritesNothing : listedStatusWords.contains 0x0000 = false ∧
    listedStatusWords.contains 0xFFFF = false ∧ listedStatusWords.contains 0x1209 = false ∧
    (running 0x000F 21845 (fresh 0x1218 5)).params.strictStatus = false ∧
    listedStatusWords.contains
      (running 0x000F 21845 (fresh 0x1218 5)).beginCycle.statusWord = false := by decide

theorem witness_StrictStatusIsRefused : base.phase = .idle ∧ strict.params.strictStatus = true ∧
    base.params.strictStatus = false ∧
    (∃ t, base.configureLine [.resolution 1000, .strictStatus false] = .next t) ∧
    step { strict with phase := .run, pending := [fresh 0x1250 0] } = .refused .strictStatus ∧
    listedStatusWords.contains
      ({ strict with phase := .run, pending := [stale] } : State).beginCycle.statusWord = false ∧
    exec .cycle { strict with phase := .run, pending := [stale] } = .refused .strictStatus ∧
    exec (.keep 0x1209) strict = .refused .strictStatus :=
  ⟨rfl, rfl, rfl, ⟨_, rfl⟩, rfl, by decide, rfl, rfl⟩

theorem witness_DecideFollowsTheEncoder :
    (decides (holding 0x1208 0) ∧ (holding 0x1208 0).dstate = .fault) ∧
    (decides (holding 0x1250 0) ∧ (holding 0x1250 0).dstate = .switchOnDisabled) ∧
    (decides (holding 0x1231 0) ∧ (holding 0x1231 0).dstate = .readyToSwitchOn) ∧
    (decides (holding 0x1233 0) ∧ (holding 0x1233 0).dstate = .switchedOn) ∧
    (decides (holding 0x1637 0) ∧ (holding 0x1637 0).dstate = .operationEnabled) ∧
    (decides (holding 0x1633 0) ∧ (holding 0x1633 0).dstate = .unrecognized) :=
  ⟨⟨⟨_, rfl⟩, by decide⟩, ⟨⟨_, rfl⟩, by decide⟩, ⟨⟨_, rfl⟩, by decide⟩, ⟨⟨_, rfl⟩, by decide⟩,
    ⟨⟨_, rfl⟩, by decide⟩, ⟨⟨_, rfl⟩, by decide⟩⟩

/-- The same decision inputs with another health value, torque and error code. -/
def otherInputs (s : State) : State :=
  { s with inRec := Memory.ofRecord (encodeSnapshot ⟨0x1237, 5, 77, 3, 0x7500, 8, 1⟩), wkc := 0 }

theorem witness_DecisionIgnoresOtherInputs :
    otherInputs (holding 0x1237 5) =
      { holding 0x1237 5 with inRec := (otherInputs (holding 0x1237 5)).inRec,
                              wkc := (otherInputs (holding 0x1237 5)).wkc } ∧
    (otherInputs (holding 0x1237 5)).inRec ≠ (holding 0x1237 5).inRec ∧
    (otherInputs (holding 0x1237 5)).statusWord = (holding 0x1237 5).statusWord ∧
    (otherInputs (holding 0x1237 5)).actualPosition = (holding 0x1237 5).actualPosition ∧
    decides (holding 0x1237 5) ∧ runDecide strict = .refused .strictStatus :=
  ⟨rfl, by decide, by decide, by decide, ⟨_, rfl⟩, rfl⟩

theorem witness_ZeroVelocityOutsideOperationEnabled :
    after (exec .cycle (running 0x000F 21845 (fresh 0x1208 0))) (fun t => t.statusWord == 0x1208) = true ∧
    after (exec .cycle (running 0x000F 21845 (fresh 0x1250 0))) (fun t => t.statusWord == 0x1250) = true ∧
    after (exec .cycle (running 0x000F 21845 (fresh 0x1231 0))) (fun t => t.statusWord == 0x1231) = true ∧
    after (exec .cycle (running 0x000F 21845 (fresh 0x1233 0))) (fun t => t.statusWord == 0x1233) = true := by
  decide

theorem witness_FaultResetIsHeld : (running 0x0080 0 (fresh 0x1250 0)).controlWord = 0x0080 ∧
    after (exec .cycle (running 0x0080 0 (fresh 0x1250 0))) (fun t => t.controlWord != 0x0080) = true ∧
    after (exec .drainc (running 0x0080 0 stale)) (fun t => t.controlWord != 0x0080) = true := by decide

theorem witness_SfailEndsTheRun : ({ base with phase := .failed, pending := [stale] } : State).phase = .failed ∧
    steps { base with phase := .failed, pending := [stale] } := ⟨rfl, ⟨_, rfl⟩⟩

theorem witness_StopRequestClearsRunFlag : (draining 0 stale).runFlag = false ∧
    runs .stopreq (draining 0 stale) ∧ runs .cycle (draining 0 stale) :=
  ⟨rfl, ⟨_, rfl⟩, ⟨_, rfl⟩⟩

theorem witness_ExchangeMovesWholeRecords : (fresh 0x1237 5).resp =
      .fresh (encodeSnapshot ⟨0x1237, 5, 0, 0, 0, 9, 0⟩) 1 ∧ stale.resp = .stale 0 ∧
    runs .cycle (running 0 0 stale) ∧ runs .drainc (draining 49 stale) ∧
    runs .runa (holding 0x1237 5) ∧ runs .start base ∧ runs .stop (draining 0 stale) :=
  ⟨rfl, rfl, ⟨_, rfl⟩, ⟨_, rfl⟩, ⟨_, rfl⟩, ⟨_, rfl⟩, ⟨_, rfl⟩⟩

theorem witness_CycleRunsTheLoopBody : (running 0 0 stale).params.strictStatus = false ∧
    ¬ commandByte 15 ∧ ¬ constantByte 15 ∧ ¬ commandByte 11 ∧ ¬ constantByte 11 := by
  refine ⟨rfl, ?_, ?_, ?_, ?_⟩ <;> simp [commandByte, constantByte]

theorem witness_DraincSendsTheZeroCommand : ¬ commandByte 2 ∧ ¬ constantByte 2 ∧ ¬ commandByte 15 ∧
    ¬ constantByte 15 := by simp [commandByte, constantByte]

theorem witness_StepTableSelects : (⟨.idle, true, true, false, false⟩ : Select).stopReq = false ∧
    (⟨.run, false, false, false, false⟩ : Select).phase = .run ∧
    (⟨.run, false, false, false, false⟩ : Select).runFlag = false ∧
    (⟨.failed, true, true, true, false⟩ : Select).phase = .failed := by decide

theorem witness_StepExecutesTheSelected : (running 0 0 stale).params.strictStatus = false ∧
    selectOp (running 0 0 stale).selector = .ok .cycle ∧
    selectOp ({ base with pending := [⟨true, true, false, false, 0, 0⟩] } : State).selector
      = .ok .start ∧
    selectOp ({ base with pending := [⟨true, false, false, false, 0, 0⟩] } : State).selector
      = .ok .sfail ∧
    selectOp ({ running 0 0 stale with runFlag := false } : State).selector = .ok .stop ∧
    selectOp (draining 0 stale).selector = .ok .drainc ∧
    selectOp (running 0 0 ⟨false, false, true, false, 0, 0⟩).selector = .ok .stopreq := by decide

theorem witness_StepRunsTheFetchedAction :
    (running 0 0 (fresh 0x1637 5)).params.strictStatus = false ∧
    (running 0 0 (fresh 0x1637 5)).phase = .run ∧ (running 0 0 (fresh 0x1637 5)).runFlag = true ∧
    (running 0 0 (fresh 0x1637 5)).input.stopReq = false ∧
    decodeBytes (running 0 0 (fresh 0x1637 5)).beginStep.beginCycle.inRec.bytes = .ok .runb ∧
    WellFormed .runb = true ∧
    decodeBytes (running 0 0 (fresh 0xFFFF 5)).beginStep.beginCycle.inRec.bytes = .ok (.keep 0xFFFF) ∧
    WellFormed (.keep 0xFFFF) = true := by decide

theorem witness_FinalPhasesStay : base.params.strictStatus = false ∧
    (({ base with phase := .halted, pending := [stale] } : State).input.stopReq = false) ∧
    (({ base with phase := .failed, pending := [stale] } : State).input.stopReq = false) ∧
    (({ base with pending := [stale] } : State).input.stopReq = false ∧
      ({ base with pending := [stale] } : State).phase = .idle ∧
      ({ base with pending := [stale] } : State).input.start = false) := by decide

theorem witness_PhaseEdgesAreExact : steps (running 0 0 stale) ∧
    steps { base with pending := [⟨true, true, false, false, 0, 0⟩] } ∧
    steps { base with pending := [⟨true, false, false, false, 0, 0⟩] } ∧
    steps { running 0 0 stale with runFlag := false } ∧ steps (draining 49 stale) :=
  ⟨⟨_, rfl⟩, ⟨_, rfl⟩, ⟨_, rfl⟩, ⟨_, rfl⟩, ⟨_, rfl⟩⟩

theorem witness_NothingFaults : (running 0 0 stale).params.strictStatus = false ∧
    selectOp (running 0 0 stale).selector = .ok .cycle := ⟨rfl, by decide⟩

theorem witness_OwnershipIsKept : steps (running 0 0 ⟨false, false, true, false, 0, 0⟩) ∧
    (running 0 0 ⟨false, false, true, false, 0, 0⟩).input.stopReq = true ∧
    steps (running 0 0 stale) ∧ (running 0 0 stale).input.stopReq = false :=
  ⟨⟨_, rfl⟩, rfl, ⟨_, rfl⟩, rfl⟩

theorem witness_RegistersHaveTheirWriters : runs .cycle (enabled 0x000F 21845 1000 (fresh 0x1637 5)) ∧
    (enabled 0x000F 21845 1000 (fresh 0x1637 5)).motorEnabled = true ∧
    runs .start (enabled 0x000F 21845 1000 stale) ∧ runs .drainc (draining 50 stale) :=
  ⟨⟨_, rfl⟩, rfl, ⟨_, rfl⟩, ⟨_, rfl⟩⟩

theorem witness_OutputLatencyIsOneStep : ∃ t u,
    step { running 0 0 (fresh 0x1250 0) with pending := [fresh 0x1250 0, stale] } = .next t ∧
    step t = .next u ∧ selectOp t.selector = .ok .cycle :=
  ⟨_, _, rfl, rfl, rfl⟩

theorem witness_StaleCycleRepeatsTheCommand : runs .cycle (running 0x000F 0 (fresh 0x1237 1000)) ∧
    stale.resp = .stale 0 := ⟨⟨_, rfl⟩, rfl⟩

theorem witness_PriorityOfChecks : base.params.strictStatus = false ∧
    ({ running 0 0 (fresh 0x1208 0) with runFlag := false } : State).params.strictStatus = false ∧
    (({ base with runFlag := false, pending := [⟨true, false, false, false, 0, 0⟩] } : State).input.start
        = true ∧
      ({ base with runFlag := false, pending := [⟨true, false, false, false, 0, 0⟩] } : State).input.operational
        = false) ∧
    ({ running 0 0 (fresh 0x1208 0) with runFlag := false } : State).phase = .run ∧
    ({ running 0 0 (fresh 0x1208 0) with runFlag := false } : State).runFlag = false ∧
    ({ running 0 0 (fresh 0x1208 0) with runFlag := false } : State).input.stopReq = false := by decide

theorem witness_EarlyStopRequestIsKept : ∃ t,
    selectOp ({ base with runFlag := false, pending := [⟨true, true, false, false, 0, 0⟩, stale] } :
      State).selector = .ok .start ∧
    step { base with runFlag := false, pending := [⟨true, true, false, false, 0, 0⟩, stale] }
      = .next t ∧ t.input.stopReq = false :=
  ⟨_, rfl, rfl, rfl⟩

/-- A state of the loop with a pending stop request: what reset, a stop request and START leave. -/
def stopping : State :=
  { base with phase := .run, tvSet := 21845, runFlag := false, pending := List.replicate 51 stale }

theorem witness_StepKeepsTheInvariant : stopping.Inv ∧ steps stopping where
  left :=
    { outWf := rfl, inWf := rfl, control := by decide, velocity := Or.inl (by decide),
      unused := by decide, constants := Or.inl rfl, setpoint := rfl, fresh := fun h => (by cases h),
      latch := fun _ => rfl, drainCount := rfl, stopped := fun h => (by rcases h with h | h <;> cases h),
      drained := fun h => (by rcases h with ⟨h, _⟩ | h <;> cases h), strobes := by decide }
  right := ⟨_, rfl⟩

theorem witness_AtMostFiftyExchangesAfterAStop : stopping.Inv ∧ stopping.runFlag = false ∧
    stopping.phase ≠ .idle := ⟨witness_StepKeepsTheInvariant.1, rfl, by decide⟩

theorem witness_StopHaltsAfterFiftyOneSteps : stopping.params.strictStatus = false ∧
    stopping.phase = .run ∧ stopping.runFlag = false ∧
    ∀ k, k < 51 → (stopping.inputAt k).stopReq = false := ⟨rfl, rfl, rfl, by decide⟩

theorem witness_ResetValues : base.powerOnReset = base.powerOnReset ∧ State.reset = State.reset :=
  ⟨rfl, rfl⟩

theorem witness_LatchFiresOnceAtTheFirstEnable :
    (running 0x000F 0 (fresh 0x1237 1000)).phase ≠ .idle ∧ steps (running 0x000F 0 (fresh 0x1237 1000)) ∧
    (running 0x000F 0 (fresh 0x1237 1000)).motorEnabled = false ∧
    steps (enabled 0x000F 21845 1000 (fresh 0x1237 9999)) ∧
    (enabled 0x000F 21845 1000 (fresh 0x1237 9999)).motorEnabled = true :=
  ⟨by decide, ⟨_, rfl⟩, rfl, ⟨_, rfl⟩, rfl⟩

theorem witness_EnableEventStrobesOnce : steps (running 0x000F 0 (fresh 0x1637 (-200))) ∧
    stopping.Inv := ⟨⟨_, rfl⟩, witness_StepKeepsTheInvariant.1⟩

theorem witness_ReportIsPeriodic :
    steps { enabled 0x000F 21845 1000 (fresh 0x1237 501000) with cycleCount := 499 } := ⟨_, rfl⟩

theorem witness_DecodeEncodeAgree : WellFormed (.keep 0xFFFF) = true ∧
    encodeInstr (.keep 0xFFFF) ⟨0, 5, 0, 0, 0, 9, 0⟩ =
      some (encodeSnapshot ⟨0xFFFF, 5, 0, 0, 0, 9, 0⟩) ∧
    encodeInstr .runb ⟨0, 5, 0, 0, 0, 9, 0⟩ = some (encodeSnapshot ⟨0x1637, 5, 0, 0, 0, 9, 0⟩) ∧
    encode .stop = .select ⟨.run, false, false, false, false⟩ := by decide

theorem witness_FieldsAreLittleEndian :
    (∃ t, base.memWrite .out 0 2 0x1234 = .ok t) ∧ (∃ t, base.memWrite .inp 14 2 0x1234 = .ok t) ∧
    (∃ t, base.memWrite .out 12 4 0x12345678 = .ok t) := ⟨⟨_, rfl⟩, ⟨_, rfl⟩, ⟨_, rfl⟩⟩

theorem witness_MemoryAccessLaws : 12 + 4 ≤ 16 ∧ 16 < 13 + 4 ∧ 15 + 1 ≤ 16 ∧ 16 < 16 + 1 := by decide

theorem witness_RpmDisplayIsExact : base.params.resolution = 131072 := rfl

theorem witness_RpmConversionRoundsOrRefuses :
    |((rpmToPulses 131072 (15 / 65536) : Int) : Rat) - 15 / 65536 * (131072 : Nat) / 60| = 1 / 2 ∧
    (-(2 : Int) ^ 31 ≤ rpmToPulses base.params.resolution (-983040) ∧
      rpmToPulses base.params.resolution 983039 < 2 ^ 31) ∧
    ¬ rpmToPulses base.params.resolution 983040 < 2 ^ 31 := by
  decide +kernel

theorem witness_RpmRoundTrip : 0 < base.params.resolution ∧ 0 < 1 := by decide

theorem witness_ParametersAreSetBeforeStart : base.phase = .idle ∧
    base.params.strictStatus = false ∧ stopping.phase ≠ .idle := by decide

end Sys2Proof.Tests
end

/-! # The state of 10_state.md

The exit code as a function of `PHASE` (R37), the reset table (R41), and the edges of `PHASE` (R21). -/

namespace Sys2Proof.Machine

/-! ### The exit code -/

theorem State.exitCode_eq_zero_iff (s : State) : s.exitCode = some 0 ↔ s.phase = .halted := by
  unfold State.exitCode
  cases s.phase <;> decide

theorem State.exitCode_eq_one_iff (s : State) : s.exitCode = some 1 ↔ s.phase = .failed := by
  unfold State.exitCode
  cases s.phase <;> decide

theorem State.exitCode_eq_none_iff (s : State) :
    s.exitCode = none ↔ s.phase = .idle ∨ s.phase = .run ∨ s.phase = .drain := by
  unfold State.exitCode
  cases s.phase <;> decide

/-- Settles O48, one equivalence for each value of `EXIT_CODE`. -/
theorem exitCodeFollowsPhase : Obligations.ExitCodeFollowsPhase := fun s =>
  ⟨s.exitCode_eq_zero_iff, s.exitCode_eq_one_iff, s.exitCode_eq_none_iff⟩

/-! ### Power-on reset -/

/-- The reset state is its own power-on reset, so a fact about every power-on reset covers it. -/
theorem State.reset_powerOnReset : State.reset.powerOnReset = State.reset := rfl

/-- Power-on reset leaves no byte of either record set. -/
theorem State.byte_powerOnReset (s : State) (sp : Space) (k : Nat) :
    s.powerOnReset.byte sp k = 0 := by
  cases sp with
  | out => exact Memory.get_nil k
  | inp => exact Memory.get_nil k

/-- Settles O30: both disjuncts are power-on resets, whose registers compute and whose records are
`byte_powerOnReset`. -/
theorem resetValues : Obligations.ResetValues := by
  intro s r hr
  obtain ⟨u, rfl⟩ : ∃ u : State, r = u.powerOnReset := by
    rcases hr with hs | hreset
    · exact ⟨s, hs⟩
    · exact ⟨State.reset, hreset.trans State.reset_powerOnReset.symm⟩
  exact ⟨rfl, rfl, rfl, rfl, rfl, rfl, rfl, rfl, rfl, fun k _ => u.byte_powerOnReset .out k,
    fun k _ => u.byte_powerOnReset .inp k, rfl, rfl⟩

/-! ### The edges of `PHASE` -/

/-- A CYCLE does not write `PHASE` (40_cyclic_exchange.md R125). -/
theorem execCycle_phase {s t : State} (h : execCycle s = .next t) : t.phase = s.phase := by
  obtain ⟨u, hu, rfl⟩ := execCycle_cases h
  obtain ⟨hphase, -⟩ := runDecide_frame hu
  simpa using hphase

/-- A DRAINC halts the block or leaves `PHASE` (40_cyclic_exchange.md R130). -/
theorem exec_drainc_phase {s t : State} (h : exec .drainc s = .next t) :
    t.phase = s.phase ∨ t.phase = .halted := by
  rw [exec_drainc] at h
  cases h
  rw [State.countDrain_phase]
  split
  · exact .inr rfl
  · left
    simp

/-- A step that answers a next state leaves `PHASE` or takes one of its four edges, each by its own
operation (10_state.md R21). -/
theorem step_phase_cases {s t : State} (h : step s = .next t) : t.phase = s.phase ∨
    (s.phase = .idle ∧ t.phase = .run ∧ selectOp s.selector = .ok .start) ∨
    (s.phase = .idle ∧ t.phase = .failed ∧ selectOp s.selector = .ok .sfail) ∨
    (s.phase = .run ∧ t.phase = .drain ∧ selectOp s.selector = .ok .stop) ∨
    (s.phase = .drain ∧ t.phase = .halted ∧ selectOp s.selector = .ok .drainc) := by
  obtain ⟨_, _, rfl⟩ | ⟨i, u, hsel, hexec, rfl⟩ := step_cases h
  · exact .inl rfl
  obtain ⟨_, rfl⟩ | ⟨_, hidle, _, _, rfl⟩ | ⟨_, hidle, _, _, rfl⟩ | ⟨_, _, _, rfl⟩ |
    ⟨_, hrun, _, rfl⟩ | ⟨_, hdrain, rfl⟩ := selectOp_cases hsel
  · -- STOPREQ
    cases hexec
    exact .inl rfl
  · -- START
    cases hexec
    exact .inr (.inl ⟨hidle, rfl, hsel⟩)
  · -- SFAIL
    cases hexec
    exact .inr (.inr (.inl ⟨hidle, rfl, hsel⟩))
  · -- CYCLE
    have hkeep : u.phase = s.beginStep.phase := execCycle_phase hexec
    exact .inl hkeep
  · -- STOP
    cases hexec
    exact .inr (.inr (.inr (.inl ⟨hrun, rfl, hsel⟩)))
  · -- DRAINC
    obtain hkeep | hhalt := exec_drainc_phase hexec
    · exact .inl hkeep
    · exact .inr (.inr (.inr (.inr ⟨hdrain, hhalt, hsel⟩)))

/-- Settles O20: the codes and the port by definition, the edges by `step_phase_cases`. -/
theorem phaseEdgesAreExact : Obligations.PhaseEdgesAreExact :=
  ⟨⟨rfl, rfl, rfl, rfl, rfl⟩, fun _ => rfl, fun _ _ h => step_phase_cases h⟩

end Sys2Proof.Machine

/-! # The exchange of 20_memory.md

What an EXCHANGE moves (R68), and which operations make one: CYCLE on the record `OUT` it begins with, DRAINC
on the one it leaves, no other. -/

namespace Sys2Proof.Machine

/-! ### What an exchange moves -/

/-- The record that an exchange drives carries the 16 bytes of `OUT`. -/
theorem State.byteOf_outRec_toRecord (s : State) {k : Nat} (hk : k < 16) :
    byteOf s.outRec.toRecord k = s.byte .out k :=
  Memory.byteOf_toRecord s.outRec k hk

/-- An exchange leaves `OUT`. -/
theorem State.byte_out_exchange (s : State) (r : Resp) (k : Nat) :
    (s.exchange r).byte .out k = s.byte .out k := by
  rw [State.byte_out, State.exchange_outRec, State.byte_out]

/-- A fresh response replaces each of the 16 bytes of `IN`. -/
theorem State.byte_inp_exchange_fresh (s : State) (bytes : Record) (w : Half) {k : Nat} (hk : k < 16) :
    (s.exchange (.fresh bytes w)).byte .inp k = byteOf bytes k := by
  rw [State.byte_inp, State.exchange_inRec_fresh, Memory.get_ofRecord, if_pos hk]

/-- A timeout leaves `IN`. -/
theorem State.byte_inp_exchange_stale (s : State) (w : Half) (k : Nat) :
    (s.exchange (.stale w)).byte .inp k = s.byte .inp k := by
  rw [State.byte_inp, State.exchange_inRec_stale, State.byte_inp]

/-- An exchange writes `ex_out`, `IN` and `WKC`, and no other field. -/
theorem State.exchange_frame (s : State) (r : Resp) :
    s.exchange r = { s with exOut := (s.exchange r).exOut, inRec := (s.exchange r).inRec,
                            wkc := (s.exchange r).wkc } := rfl

/-- What an exchange leaves in `IN` depends on the response and on `IN` alone. -/
theorem State.exchange_inRec_congr {s t : State} (h : t.inRec = s.inRec) (r : Resp) :
    (t.exchange r).inRec = (s.exchange r).inRec := by
  cases r with
  | fresh bytes w => rw [State.exchange_inRec_fresh, State.exchange_inRec_fresh]
  | stale w => rw [State.exchange_inRec_stale, State.exchange_inRec_stale, h]

/-! ### Who makes an exchange -/

/-- A CYCLE exchanges `OUT` as it stood: neither DECIDE nor the end of the CYCLE touches what the exchange
at its beginning wrote. -/
theorem execCycle_exchange {s t : State} (h : execCycle s = .next t) :
    t.exOut = some s.outRec.toRecord ∧ t.inRec = (s.exchange s.input.resp).inRec ∧
    t.wkc = s.input.resp.wkc := by
  obtain ⟨u, hdecide, rfl⟩ := execCycle_cases h
  obtain ⟨-, -, -, -, hwkc, -, hinRec, -, hexOut, -⟩ := runDecide_frame hdecide
  simp [hwkc, hinRec, hexOut]

/-- A DRAINC exchanges `OUT` as it leaves it: the zero command and REASSERT come before the exchange, and
the count after it does not touch `OUT`. -/
theorem exec_drainc_exchange {s t : State} (h : exec .drainc s = .next t) :
    t.exOut = some t.outRec.toRecord ∧ t.inRec = (s.exchange s.input.resp).inRec ∧
    t.wkc = s.input.resp.wkc := by
  rw [exec_drainc] at h
  cases h
  have hinRec : s.zeroCommand.reassert.inRec = s.inRec := by simp
  simp [State.exchange_inRec_congr hinRec]

/-- No instruction but CYCLE and DRAINC touches what an exchange writes. -/
theorem exec_keeps_exchanged {i : Instr} {s t : State} (h : exec i s = .next t)
    (hcycle : i ≠ .cycle) (hdrainc : i ≠ .drainc) :
    t.exOut = s.exOut ∧ t.inRec = s.inRec ∧ t.wkc = s.wkc := by
  cases i with
  | cycle => exact absurd rfl hcycle
  | drainc => exact absurd rfl hdrainc
  | keep sw =>
    rw [exec_keep] at h
    obtain ⟨-, hnext⟩ := State.permissive_eq_next h
    cases hnext
    exact ⟨rfl, rfl, rfl⟩
  | freset | shutdn | swon | enop | runa | runb | start | sfail | stop | stopreq =>
    cases h
    simp

/-- Settles O13: the four clauses are what an exchange moves, the instructions that make none, and the
exchanges of CYCLE and of DRAINC. -/
theorem exchangeMovesWholeRecords : Obligations.ExchangeMovesWholeRecords := by
  refine ⟨fun s r => ?_, fun _ _ _ h hcycle hdrainc => exec_keeps_exchanged h hcycle hdrainc,
    fun _ _ h => execCycle_exchange h, fun _ _ h => exec_drainc_exchange h⟩
  refine ⟨s.outRec.toRecord, s.exchange_exOut r, fun k hk => s.byteOf_outRec_toRecord hk,
    s.byte_out_exchange r, ?fresh, ?stale, s.exchange_frame r⟩
  case fresh =>
    rintro bytes w rfl
    exact ⟨rfl, fun k hk => s.byte_inp_exchange_fresh bytes w hk⟩
  case stale =>
    rintro w rfl
    exact ⟨rfl, s.byte_inp_exchange_stale w⟩

end Sys2Proof.Machine

/-! # The encodings of 30_encoding.md: the two decoder tables

The decoder of a status word, its action and its `DSTATE` (R94), and the control-word encoder as DECIDE
applies it (R97). -/

namespace Sys2Proof

/-! ### The action of a status word -/

/-- Decoding the code of a well-formed instruction gives it back, for every constructor. -/
theorem decode_encode {i : Instr} (hi : WellFormed i = true) : decode (encode i) = .ok i := by
  cases i with
  | freset => exact Laws.RoundTrip.freset hi
  | shutdn => exact Laws.RoundTrip.shutdn hi
  | swon => exact Laws.RoundTrip.swon hi
  | enop => exact Laws.RoundTrip.enop hi
  | runa => exact Laws.RoundTrip.runa hi
  | runb => exact Laws.RoundTrip.runb hi
  | keep sw => exact Laws.RoundTrip.keep sw hi
  | start => exact Laws.RoundTrip.start hi
  | sfail => exact Laws.RoundTrip.sfail hi
  | cycle => exact Laws.RoundTrip.cycle hi
  | stop => exact Laws.RoundTrip.stop hi
  | drainc => exact Laws.RoundTrip.drainc hi
  | stopreq => exact Laws.RoundTrip.stopreq hi

/-- The action that a status word selects is encoded by that word. -/
theorem encode_decodeStatus (sw : Half) : encode (decodeStatus sw) = .status sw := by
  rw [decodeStatus_eq]
  split_ifs <;> simp_all [encode]

/-- The decoder selects KEEP for unlisted words only. -/
theorem wellFormed_decodeStatus (sw : Half) : WellFormed (decodeStatus sw) = true := by
  rw [decodeStatus_eq]
  split_ifs <;> simp_all [WellFormed, listedStatusWords]

/-- A well-formed instruction is selected by the status word that encodes it and by no other. -/
theorem decodeStatus_eq_iff {i : Instr} (hi : WellFormed i = true) (sw : Half) :
    decodeStatus sw = i ↔ encode i = .status sw := by
  constructor
  · rintro rfl
    exact encode_decodeStatus sw
  · intro hcode
    have hdecode := decode_encode hi
    rw [hcode] at hdecode
    exact Except.ok.inj hdecode

/-- An action with one literal is selected by that literal and by no other word. -/
theorem decodeStatus_eq_iff_literal {i : Instr} {literal : Half} (hi : WellFormed i = true)
    (hcode : encode i = .status literal) (sw : Half) : decodeStatus sw = i ↔ sw = literal := by
  rw [decodeStatus_eq_iff hi, hcode, Code.status.injEq, eq_comm]

/-- A word selects its KEEP exactly if it is not listed. -/
theorem decodeStatus_eq_keep_iff (sw : Half) :
    decodeStatus sw = .keep sw ↔ listedStatusWords.contains sw = false := by
  refine ⟨fun h => ?_, decodeStatus_of_not_listed sw⟩
  have hwf := wellFormed_decodeStatus sw
  rw [h] at hwf
  simpa [WellFormed] using hwf

/-! ### The drive state of a status word -/

/-- The literals that R94 lists for a drive state. -/
def DState.literals : DState → List Half
  | .fault => [0x1208]
  | .switchOnDisabled => [0x1250]
  | .readyToSwitchOn => [0x1231]
  | .switchedOn => [0x1233]
  | .operationEnabled => [0x1237, 0x1637]
  | .unrecognized => []

/-- A literal of a drive state decodes to it. -/
theorem dstateOf_of_mem_literals {d : DState} {sw : Half} (h : sw ∈ d.literals) : dstateOf sw = d := by
  have hall : d.literals.all (fun w => dstateOf w = d) = true := by cases d <;> decide
  simpa using List.all_eq_true.mp hall sw h

/-- A listed word is a literal of the drive state it decodes to. -/
theorem mem_literals_dstateOf {sw : Half} (h : listedStatusWords.contains sw = true) :
    sw ∈ (dstateOf sw).literals := by
  rcases (listed_iff sw).mp h with rfl | rfl | rfl | rfl | rfl | rfl <;> decide

/-- UNRECOGNIZED is the drive state of exactly the words that are not listed. -/
theorem dstateOf_eq_unrecognized_iff (sw : Half) :
    dstateOf sw = .unrecognized ↔ listedStatusWords.contains sw = false := by
  constructor
  · intro hd
    by_contra hlisted
    have hmem := mem_literals_dstateOf (Bool.eq_true_of_not_eq_false hlisted)
    rw [hd] at hmem
    exact List.not_mem_nil hmem
  · intro hlisted
    have hne : ¬ (sw = 0x1208 ∨ sw = 0x1250 ∨ sw = 0x1231 ∨ sw = 0x1233 ∨ sw = 0x1237 ∨ sw = 0x1637) :=
      fun h => Bool.noConfusion (hlisted.symm.trans ((listed_iff sw).mpr h))
    push Not at hne
    obtain ⟨h1, h2, h3, h4, h5, h6⟩ := hne
    rw [dstateOf, if_neg h1, if_neg h2, if_neg h3, if_neg h4, if_neg h5, if_neg h6]

/-- A recognized drive state is the drive state of exactly its literals. -/
theorem dstateOf_eq_iff {d : DState} (hd : d ≠ .unrecognized) (sw : Half) :
    dstateOf sw = d ↔ sw ∈ d.literals := by
  refine ⟨?_, dstateOf_of_mem_literals⟩
  rintro rfl
  rw [ne_eq, dstateOf_eq_unrecognized_iff, Bool.not_eq_false] at hd
  exact mem_literals_dstateOf hd

/-- A drive state with one literal is the drive state of that word and of no other. -/
theorem dstateOf_eq_iff_literal {d : DState} {literal : Half} (h : d.literals = [literal]) (sw : Half) :
    dstateOf sw = d ↔ sw = literal := by
  have hd : d ≠ .unrecognized := by
    rintro rfl
    exact List.cons_ne_nil _ _ h.symm
  rw [dstateOf_eq_iff hd, h, List.mem_singleton]

/-- Settles O41, row by row: the literals of each drive state, and the encoding of each action. -/
theorem decoderTable : Obligations.DecoderTable := fun sw =>
  ⟨dstateOf_eq_iff_literal rfl sw, decodeStatus_eq_iff_literal rfl rfl sw,
    dstateOf_eq_iff_literal rfl sw, decodeStatus_eq_iff_literal rfl rfl sw,
    dstateOf_eq_iff_literal rfl sw, decodeStatus_eq_iff_literal rfl rfl sw,
    dstateOf_eq_iff_literal rfl sw, decodeStatus_eq_iff_literal rfl rfl sw,
    (dstateOf_eq_iff (by decide) sw).trans List.mem_pair,
    decodeStatus_eq_iff_literal rfl rfl sw, decodeStatus_eq_iff_literal rfl rfl sw,
    dstateOf_eq_unrecognized_iff sw, decodeStatus_eq_keep_iff sw, rfl⟩

end Sys2Proof

namespace Sys2Proof.Machine

/-! ### The control-word encoder -/

/-- Where the encoder gives a pair for the drive state, DECIDE leaves that pair in `OUT`. -/
theorem runDecide_command {s t : State} {cw : Half} {tv : Word} (h : runDecide s = .next t)
    (hpair : commandOf s.dstate s.tvSet = some (cw, tv)) :
    t.controlWord = cw ∧ t.targetVelocity = tv := by
  unfold State.dstate at hpair
  rcases runDecide_cases h with ⟨cw', tv', -, hpair', rfl⟩ | ⟨hd, rfl⟩ | ⟨hd, -, rfl⟩
  · cases hpair'.symm.trans hpair
    simp
  · rw [hd] at hpair
    cases hpair
    simp
  · rw [hd] at hpair
    cases hpair

/-- Where the encoder gives no pair, DECIDE leaves the state. -/
theorem runDecide_of_no_command {s t : State} (h : runDecide s = .next t)
    (hnone : commandOf s.dstate s.tvSet = none) : t = s := by
  unfold State.dstate at hnone
  rcases runDecide_cases h with ⟨cw, tv, -, hpair, -⟩ | ⟨hd, -⟩ | ⟨-, -, rfl⟩
  · cases hpair.symm.trans hnone
  · rw [hd] at hnone
    cases hnone
  · rfl

/-- Settles O5: each row of the encoder is what DECIDE leaves for its drive state. -/
theorem decideFollowsTheEncoder : Obligations.DecideFollowsTheEncoder := fun s t h =>
  ⟨fun hd => runDecide_command h (by rw [hd]; rfl), fun hd => runDecide_command h (by rw [hd]; rfl),
    fun hd => runDecide_command h (by rw [hd]; rfl), fun hd => runDecide_command h (by rw [hd]; rfl),
    fun hd => runDecide_command h (by rw [hd]; rfl),
    fun hd => congrArg State.outRec (runDecide_of_no_command h (by rw [hd]; rfl))⟩

end Sys2Proof.Machine

/-! # The operations of 40_cyclic_exchange.md

The step table (R120), then each operation with its effect and its frame: START (R122), SFAIL (R123), CYCLE
(R125), STOPREQ (R127), STOP (R128) and DRAINC (R129, R130). -/

namespace Sys2Proof

/-! ### The step table -/

/-- The host's request comes before the sequencer's operation (40_cyclic_exchange.md R127). -/
theorem selectOp_stopreq {x : Select} (hreq : x.stopReq = true) : selectOp x = .ok .stopreq := by
  rw [selectOp, if_pos hreq]

/-- Without a request the sequencer chooses. -/
theorem selectOp_eq_selectSequencer {x : Select} (hreq : x.stopReq = false) :
    selectOp x = selectSequencer x := by
  rw [selectOp, hreq, if_neg Bool.false_ne_true]

section Rows

variable {x : Select} (hreq : x.stopReq = false)
include hreq

theorem selectOp_start (hphase : x.phase = .idle) (hstart : x.start = true)
    (hop : x.operational = true) : selectOp x = .ok .start := by
  simp [selectOp_eq_selectSequencer hreq, selectSequencer, hphase, hstart, hop]

theorem selectOp_sfail (hphase : x.phase = .idle) (hstart : x.start = true)
    (hop : x.operational = false) : selectOp x = .ok .sfail := by
  simp [selectOp_eq_selectSequencer hreq, selectSequencer, hphase, hstart, hop]

theorem selectOp_waiting (hphase : x.phase = .idle) (hstart : x.start = false) :
    selectOp x = .error .waiting := by
  simp [selectOp_eq_selectSequencer hreq, selectSequencer, hphase, hstart]

theorem selectOp_cycle (hphase : x.phase = .run) (hrun : x.runFlag = true) :
    selectOp x = .ok .cycle := by
  simp [selectOp_eq_selectSequencer hreq, selectSequencer, hphase, hrun]

theorem selectOp_stop (hphase : x.phase = .run) (hrun : x.runFlag = false) :
    selectOp x = .ok .stop := by
  simp [selectOp_eq_selectSequencer hreq, selectSequencer, hphase, hrun]

theorem selectOp_drainc (hphase : x.phase = .drain) : selectOp x = .ok .drainc := by
  simp [selectOp_eq_selectSequencer hreq, selectSequencer, hphase]

theorem selectOp_halted (hphase : x.phase = .halted) : selectOp x = .error .halted := by
  simp [selectOp_eq_selectSequencer hreq, selectSequencer, hphase]

theorem selectOp_failed (hphase : x.phase = .failed) : selectOp x = .error .failed := by
  simp [selectOp_eq_selectSequencer hreq, selectSequencer, hphase]

end Rows

/-- Settles O16: one lemma for each row. -/
theorem stepTableSelects : Obligations.StepTableSelects := fun _ hreq =>
  ⟨selectOp_start hreq, selectOp_sfail hreq, selectOp_waiting hreq, selectOp_cycle hreq,
    selectOp_stop hreq, selectOp_drainc hreq, selectOp_halted hreq, selectOp_failed hreq⟩

end Sys2Proof

namespace Sys2Proof.Machine

/-! ### START, SFAIL and STOP -/

/-- Settles O9: the row of START, and `enterLoop`, which is the write that R122 lists. -/
theorem startEntersTheLoop : Obligations.StartEntersTheLoop :=
  ⟨fun _ => selectOp_start rfl rfl rfl rfl, exec_start⟩

/-- In a final phase a step waits or takes a stop request; no other operation is selected
(40_cyclic_exchange.md R131). -/
theorem step_of_final {s t : State} (hfinal : s.phase = .halted ∨ s.phase = .failed)
    (h : step s = .next t) : t = s.beginStep.advance ∨ t = s.beginStep.requestStop.advance := by
  have hstrict := step_permissive h
  cases hreq : s.selector.stopReq with
  | true =>
    rw [step_of_select hstrict (selectOp_stopreq hreq)] at h
    cases h
    exact .inr rfl
  | false =>
    obtain ⟨e, hnone⟩ : ∃ e, selectOp s.selector = .error e := by
      obtain hhalted | hfailed := hfinal
      · exact ⟨_, selectOp_halted hreq hhalted⟩
      · exact ⟨_, selectOp_failed hreq hfailed⟩
    rw [step_of_none hstrict hnone] at h
    cases h
    exact .inl rfl

/-- A step in a final phase stays in it and makes no exchange. -/
theorem step_final_phase_exOut {s t : State} (hfinal : s.phase = .halted ∨ s.phase = .failed)
    (h : step s = .next t) : t.phase = s.phase ∧ t.exOut = none := by
  obtain rfl | rfl := step_of_final hfinal h <;> simp

/-- Settles O10: the row of SFAIL, its one write with the exit code that follows from it, and the steps of
a final phase. -/
theorem sfailEndsTheRun : Obligations.SfailEndsTheRun := by
  refine ⟨fun _ => selectOp_sfail rfl rfl rfl rfl,
    fun s => ⟨_, exec_sfail s, rfl, (State.exitCode_eq_one_iff _).mpr rfl⟩, fun s t hfailed h => ?_⟩
  obtain ⟨hphase, hexOut⟩ := step_final_phase_exOut (.inr hfailed) h
  exact ⟨hphase.trans hfailed, hexOut⟩

/-- Settles O11: the row of STOP, its writes, and the row of DRAINC, which comes next. -/
theorem stopEntersTheDrain : Obligations.StopEntersTheDrain :=
  ⟨fun _ _ => selectOp_stop rfl rfl rfl, exec_stop, fun _ _ _ => selectOp_drainc rfl rfl⟩

/-! ### STOPREQ -/

/-- A second stop request changes nothing. -/
theorem State.requestStop_of_stopped {s : State} (h : s.runFlag = false) : s.requestStop = s := by
  rw [State.requestStop, ← h]

/-- No output port shows `RUN_FLAG`. -/
theorem State.requestStop_outputs (s : State) : s.requestStop.outputs = s.outputs := rfl

/-- A CYCLE does not write `RUN_FLAG` (40_cyclic_exchange.md R125). -/
theorem execCycle_runFlag {s t : State} (h : execCycle s = .next t) : t.runFlag = s.runFlag := by
  obtain ⟨u, hdecide, rfl⟩ := execCycle_cases h
  obtain ⟨-, -, -, -, -, hrunFlag, -⟩ := runDecide_frame hdecide
  simpa using hrunFlag

/-- STOPREQ alone writes `RUN_FLAG`. -/
theorem exec_keeps_runFlag {i : Instr} {s t : State} (h : exec i s = .next t) (hi : i ≠ .stopreq) :
    t.runFlag = s.runFlag := by
  cases i with
  | stopreq => exact absurd rfl hi
  | cycle => exact execCycle_runFlag h
  | keep sw =>
    rw [exec_keep] at h
    obtain ⟨-, hnext⟩ := State.permissive_eq_next h
    cases hnext
    rfl
  | freset | shutdn | swon | enop | runa | runb | start | sfail | stop | drainc =>
    cases h
    simp

/-- Nothing sets `RUN_FLAG` back (40_cyclic_exchange.md R127). -/
theorem exec_runFlag_of_stopped {i : Instr} {s t : State} (h : exec i s = .next t)
    (hstopped : s.runFlag = false) : t.runFlag = false := by
  by_cases hi : i = .stopreq
  · subst hi
    cases h
    rfl
  · exact (exec_keeps_runFlag h hi).trans hstopped

/-- From DRAIN on the step table does not look at `RUN_FLAG`. -/
theorem selectOp_ignores_runFlag {ph : Phase} (hph : ph = .drain ∨ ph = .halted ∨ ph = .failed)
    (st op : Bool) : selectOp ⟨ph, false, st, op, false⟩ = selectOp ⟨ph, true, st, op, false⟩ := by
  obtain rfl | rfl | rfl := hph
  · rw [selectOp_drainc rfl rfl, selectOp_drainc rfl rfl]
  · rw [selectOp_halted rfl rfl, selectOp_halted rfl rfl]
  · rw [selectOp_failed rfl rfl, selectOp_failed rfl rfl]

/-- Settles O12: its clauses in their order, the fourth by `exec_keeps_runFlag` for every instruction but
STOPREQ. -/
theorem stopRequestClearsRunFlag : Obligations.StopRequestClearsRunFlag := by
  refine ⟨fun _ _ _ _ => selectOp_stopreq rfl, exec_stopreq, fun s hstopped => ?second,
    fun _ _ _ h hstopped => exec_runFlag_of_stopped h hstopped, fun s t h => ?ports,
    fun _ st op hph => selectOp_ignores_runFlag hph st op⟩
  case second => rw [exec_stopreq, State.requestStop_of_stopped hstopped]
  case ports =>
    cases h
    exact s.requestStop_outputs

/-! ### The bytes of `OUT` outside the fields that an operation writes -/

/-- States with one record `OUT` have the same bytes of it. -/
theorem State.byte_out_congr {s t : State} (h : t.outRec = s.outRec) (k : Nat) :
    t.byte .out k = s.byte .out k :=
  congrArg (fun m => Memory.get m k) h

theorem State.byte_out_command (s : State) (cw : Half) (tv : Word) {k : Nat} (hk : ¬ commandByte k) :
    (s.command cw tv).byte .out k = s.byte .out k :=
  s.command_get cw tv k hk

theorem State.byte_out_reassert (s : State) {k : Nat} (hk : ¬ constantByte k) :
    s.reassert.byte .out k = s.byte .out k :=
  s.reassert_get k hk

/-! ### DRAINC -/

/-- The record of `OUT` decodes to the fields of `OUT` (30_encoding.md R92). -/
theorem State.decodeCommand_toRecord (s : State) :
    decodeCommand s.outRec.toRecord = s.outCommand := by
  simp only [decodeCommand, State.outCommand, Command.mk.injEq]
  refine ⟨?_, ?_, ?_, ?_, ?_, ?_, ?_⟩ <;> exact Memory.fieldOf_toRecord _ _ _ _ (by decide)

section Drainc

variable {s t : State} (h : exec .drainc s = .next t)
include h

/-- A DRAINC leaves the zero command and the two constant fields (40_cyclic_exchange.md R129). -/
theorem exec_drainc_command : t.controlWord = 0x0000 ∧ t.targetVelocity = 0 ∧
    t.maxTorque = s.params.maxTorque ∧ t.operatingMode = s.params.modeCsv := by
  rw [exec_drainc] at h
  cases h
  simp

/-- A DRAINC counts, and halts when the six-bit count reads 50 (40_cyclic_exchange.md R130). -/
theorem exec_drainc_count : t.drainCount = s.drainCount + 1 ∧
    t.phase = if t.drainCount = 50 then .halted else s.phase := by
  have h50 : (s.drainCount + 1).toNat = Config.drainCycles ↔ s.drainCount + 1 = 50 :=
    BitVec.toNat_inj (y := 50)
  rw [exec_drainc] at h
  cases h
  have hcount : (s.zeroCommand.reassert.exchange s.input.resp).drainCount = s.drainCount := by simp
  rw [State.countDrain_phase, State.countDrain_drainCount, hcount]
  exact ⟨rfl, if_congr h50 rfl (by simp)⟩

/-- The fields that a DRAINC writes. -/
theorem exec_drainc_frame :
    t = { s with outRec := t.outRec, inRec := t.inRec, exOut := t.exOut, wkc := t.wkc,
                 drainCount := t.drainCount, phase := t.phase } := by
  rw [exec_drainc] at h
  cases h
  apply State.ext <;> simp

/-- A DRAINC leaves every byte of `OUT` outside the command and the constant fields. -/
theorem exec_drainc_byte_out {k : Nat} (hcommand : ¬ commandByte k) (hconstant : ¬ constantByte k) :
    t.byte .out k = s.byte .out k := by
  rw [exec_drainc] at h
  cases h
  rw [State.byte_out_congr (State.countDrain_outRec _), State.byte_out_exchange,
    State.byte_out_reassert _ hconstant]
  exact s.byte_out_command 0x0000 0 hcommand

end Drainc

/-- Settles O15: the command, the exchange that drives the record DRAINC leaves, and the count, each by its
lemma. -/
theorem draincSendsTheZeroCommand : Obligations.DraincSendsTheZeroCommand := by
  refine ⟨fun _ _ _ => selectOp_drainc rfl rfl, fun s => ?_⟩
  obtain ⟨t, h⟩ : ∃ t, exec .drainc s = .next t := ⟨_, exec_drainc s⟩
  obtain ⟨hcw, hvelocity, htorque, hmode⟩ := exec_drainc_command h
  obtain ⟨hexOut, hinRec, hwkc⟩ := exec_drainc_exchange h
  obtain ⟨hcount, hphase⟩ := exec_drainc_count h
  exact ⟨t, h, hcw, hvelocity, htorque, hmode, hexOut, t.decodeCommand_toRecord, hinRec, hwkc, hcount,
    hphase, exec_drainc_frame h, fun _ => exec_drainc_byte_out h⟩

/-! ### What a decision writes -/

/-- DECIDE leaves the encoder's pair for `DSTATE`, or the previous command where the encoder has none
(30_encoding.md R97). -/
theorem runDecide_encodes {s t : State} (h : runDecide s = .next t) :
    (t.controlWord, t.targetVelocity) =
      (commandOf s.dstate s.tvSet).getD (s.controlWord, s.targetVelocity) := by
  cases hpair : commandOf s.dstate s.tvSet with
  | none => rw [runDecide_of_no_command h hpair, Option.getD_none]
  | some pair =>
    obtain ⟨hcw, htv⟩ := runDecide_command h hpair
    rw [hcw, htv, Option.getD_some]

/-- DECIDE fires the latch exactly if the drive is enabled and the latch has not fired
(41_decision_engine.md R159). -/
theorem runDecide_latch {s t : State} (h : runDecide s = .next t) :
    t.motorEnabled = (s.motorEnabled || decide (s.dstate = .operationEnabled)) ∧
    t.enableEvt = (s.enableEvt || (!s.motorEnabled && decide (s.dstate = .operationEnabled))) ∧
    t.startPos = if !s.motorEnabled && decide (s.dstate = .operationEnabled)
      then s.actualPosition else s.startPos := by
  unfold State.dstate
  obtain ⟨_, _, hd, -, rfl⟩ | ⟨hd, rfl⟩ | ⟨hd, -, rfl⟩ := runDecide_cases h
  · simp [hd]
  · cases hm : s.motorEnabled <;> simp [hd, hm]
  · simp [hd]

/-- DECIDE leaves every byte of `OUT` outside the command. -/
theorem runDecide_byte_out {s t : State} (h : runDecide s = .next t) {k : Nat} (hk : ¬ commandByte k) :
    t.byte .out k = s.byte .out k := by
  obtain ⟨cw, tv, -, -, rfl⟩ | ⟨-, rfl⟩ | ⟨-, -, rfl⟩ := runDecide_cases h
  · exact s.byte_out_command cw tv hk
  · exact (State.byte_out_congr (State.latch_outRec _) k).trans (s.byte_out_command _ _ hk)
  · rfl

/-! ### CYCLE -/

section Cycle

variable {s t : State} (h : execCycle s = .next t)
include h

/-- A CYCLE decides on the snapshot that it leaves in `IN`. -/
theorem execCycle_inRec : t.inRec = s.beginCycle.inRec := by
  obtain ⟨-, hinRec, -⟩ := execCycle_exchange h
  rw [hinRec, State.beginCycle_inRec]

/-- A CYCLE leaves the encoder's pair for its new `DSTATE`, or the previous command. -/
theorem execCycle_encodes : (t.controlWord, t.targetVelocity) =
    (commandOf t.dstate s.tvSet).getD (s.controlWord, s.targetVelocity) := by
  rw [State.dstate_congr (execCycle_inRec h)]
  obtain ⟨u, hdecide, rfl⟩ := execCycle_cases h
  simpa using runDecide_encodes hdecide

/-- A CYCLE reasserts the two constant fields. -/
theorem execCycle_constants : t.maxTorque = s.params.maxTorque ∧ t.operatingMode = s.params.modeCsv := by
  obtain ⟨u, hdecide, rfl⟩ := execCycle_cases h
  obtain ⟨-, -, -, -, -, -, -, -, -, hparams, -⟩ := runDecide_frame hdecide
  simp [hparams]

/-- The latch and its strobe after a CYCLE, in terms of the new status and position. -/
theorem execCycle_latch :
    t.motorEnabled = (s.motorEnabled || decide (t.dstate = .operationEnabled)) ∧
    t.enableEvt = (!s.motorEnabled && decide (t.dstate = .operationEnabled)) ∧
    t.startPos = if t.enableEvt then t.actualPosition else s.startPos := by
  have hposition : t.actualPosition = s.beginCycle.actualPosition :=
    congrArg Snapshot.actualPosition (State.snapshot_congr (execCycle_inRec h))
  rw [hposition, State.dstate_congr (execCycle_inRec h)]
  obtain ⟨u, hdecide, rfl⟩ := execCycle_cases h
  obtain ⟨hmotor, hevt, hstart⟩ := runDecide_latch hdecide
  rw [State.beginCycle_enableEvt, Bool.false_or] at hevt
  rw [State.endCycle_motorEnabled, State.endCycle_enableEvt, State.endCycle_startPos, hevt]
  exact ⟨hmotor, rfl, hstart⟩

/-- A CYCLE counts, and reports on a multiple of the period. -/
theorem execCycle_count : t.cycleCount = s.cycleCount + 1 ∧
    t.report = decide (t.cycleCount.toNat % s.params.reportPeriod = 0) := by
  obtain ⟨u, hdecide, rfl⟩ := execCycle_cases h
  obtain ⟨-, -, hcount, -, -, -, -, hreport, -, hparams, -⟩ := runDecide_frame hdecide
  simp [hcount, hreport, hparams]

/-- The fields that a CYCLE writes. -/
theorem execCycle_frame :
    t = { s with outRec := t.outRec, inRec := t.inRec, exOut := t.exOut, wkc := t.wkc,
                 motorEnabled := t.motorEnabled, startPos := t.startPos,
                 enableEvt := t.enableEvt, cycleCount := t.cycleCount, report := t.report } := by
  obtain ⟨u, hdecide, rfl⟩ := execCycle_cases h
  obtain ⟨hphase, hdrain, -, htvSet, -, hrunFlag, -, -, -, hparams, hpending, hdraws⟩ :=
    runDecide_frame hdecide
  apply State.ext <;> simp [hphase, hdrain, htvSet, hrunFlag, hparams, hpending, hdraws]

/-- A CYCLE leaves every byte of `OUT` outside the command and the constant fields. -/
theorem execCycle_byte_out {k : Nat} (hcommand : ¬ commandByte k) (hconstant : ¬ constantByte k) :
    t.byte .out k = s.byte .out k := by
  obtain ⟨u, hdecide, rfl⟩ := execCycle_cases h
  rw [State.byte_out_congr u.endCycle_outRec, u.byte_out_reassert hconstant,
    runDecide_byte_out hdecide hcommand, State.byte_out_congr s.beginCycle_outRec]

end Cycle

/-- With `STRICT_STATUS = false` a CYCLE answers a next state. -/
theorem execCycle_completes {s : State} (hs : s.params.strictStatus = false) :
    ∃ t, execCycle s = .next t := by
  obtain ⟨u, hdecide⟩ := runDecide_completes s.beginCycle
    fun htrue => absurd (hs.symm.trans htrue) Bool.false_ne_true
  exact ⟨u.endCycle, by rw [execCycle, hdecide, andThen_next]⟩

/-- Settles O14: what the exchange, the decision, the latch and the count leave, each by its lemma. -/
theorem cycleRunsTheLoopBody : Obligations.CycleRunsTheLoopBody := by
  refine ⟨fun _ _ => selectOp_cycle rfl rfl rfl, fun s hs => ?_⟩
  obtain ⟨t, h⟩ := execCycle_completes hs
  obtain ⟨hexOut, hinRec, hwkc⟩ := execCycle_exchange h
  obtain ⟨htorque, hmode⟩ := execCycle_constants h
  obtain ⟨hmotor, hevt, hstart⟩ := execCycle_latch h
  obtain ⟨hcount, hreport⟩ := execCycle_count h
  exact ⟨t, h, hexOut, hinRec, hwkc, execCycle_encodes h, htorque, hmode, hmotor, hevt, hstart, hcount,
    hreport, execCycle_frame h, fun _ => execCycle_byte_out h⟩

end Sys2Proof.Machine

/-! # The decision engine of 41_decision_engine.md

Each status-selected action with its selection, its effect and its frame: the four constant actions (R152 to
R155), the two run actions with the one-shot latch (R156, R157, R159), KEEP (R158); then what the loop keeps
of them: the zero velocity (R161) and the latch over a step (R162). -/

namespace Sys2Proof.Machine

/-! ### The dispatch of one literal -/

/-- DECIDE runs an action on the literal that encodes it. -/
theorem runDecide_of_literal {i : Instr} {literal : Half} (hi : WellFormed i = true)
    (hcode : encode i = .status literal) {s : State} (hs : s.statusWord = literal) :
    runDecide s = exec i s := by
  rw [runDecide_eq_exec, (decodeStatus_eq_iff_literal hi hcode s.statusWord).mpr hs]

/-! ### FRESET, SHUTDN, SWON and ENOP -/

/-- An action that writes a control word and the velocity 0, and does no more, is a constant action for the
literal that encodes it. -/
theorem constantAction_of_exec {i : Instr} {literal cw : Half} (hi : WellFormed i = true)
    (hcode : encode i = .status literal) (hexec : ∀ s, exec i s = .next (s.command cw 0)) :
    ConstantAction i literal cw :=
  ⟨decodeStatus_eq_iff_literal hi hcode, fun s =>
    ⟨s.command cw 0, hexec s, s.command_controlWord cw 0, s.command_targetVelocity cw 0, rfl,
      fun _ => s.byte_out_command cw 0,
      fun hs => (runDecide_of_literal hi hcode hs).trans (hexec s)⟩⟩

/-- Settles O1, each of the four by the one write it makes. -/
theorem constantActionsCommandAndFrame : Obligations.ConstantActionsCommandAndFrame :=
  ⟨constantAction_of_exec rfl rfl exec_freset, constantAction_of_exec rfl rfl exec_shutdn,
    constantAction_of_exec rfl rfl exec_swon, constantAction_of_exec rfl rfl exec_enop⟩

/-! ### RUNA and RUNB -/

/-- The latch fires where it has not fired (41_decision_engine.md R159). -/
theorem State.latch_fires {s : State} (h : s.motorEnabled = false) :
    s.latch.startPos = s.actualPosition ∧ s.latch.enableEvt = true := by
  simp [h]

/-- Where it has fired the latch leaves the position and the strobe. -/
theorem State.latch_of_fired {s : State} (h : s.motorEnabled = true) :
    s.latch.startPos = s.startPos ∧ s.latch.enableEvt = s.enableEvt := by
  simp [h]

/-- The latch leaves every byte of `OUT`, so of the two writes only the command shows there. -/
theorem State.byte_out_command_latch (s : State) (cw : Half) (tv : Word) {k : Nat}
    (hk : ¬ commandByte k) : (s.command cw tv).latch.byte .out k = s.byte .out k :=
  (State.byte_out_congr (State.latch_outRec _) k).trans (s.byte_out_command cw tv hk)

/-- An action that commands the setpoint under 0x000F and latches, and does no more, is a run action for the
literal that encodes it. -/
theorem runAction_of_exec {i : Instr} {literal : Half} (hi : WellFormed i = true)
    (hcode : encode i = .status literal)
    (hexec : ∀ s, exec i s = .next (s.command 0x000F s.tvSet).latch) : RunAction i literal := by
  refine ⟨decodeStatus_eq_iff_literal hi hcode, fun s => ?_⟩
  refine ⟨(s.command 0x000F s.tvSet).latch, hexec s, by simp, by simp, rfl, fun hm => ?first,
    fun hm => State.latch_of_fired hm, rfl, fun _ => s.byte_out_command_latch 0x000F s.tvSet,
    fun hs => (runDecide_of_literal hi hcode hs).trans (hexec s)⟩
  case first =>
    obtain ⟨hstart, hevt⟩ := State.latch_fires (s := s.command 0x000F s.tvSet) hm
    exact ⟨hstart.trans (s.command_actualPosition 0x000F s.tvSet), hevt⟩

/-- Settles O2: RUNA and RUNB make the same writes, each for its own literal. -/
theorem runActionsCommandSetpointAndLatch : Obligations.RunActionsCommandSetpointAndLatch :=
  ⟨runAction_of_exec rfl rfl exec_runa, runAction_of_exec rfl rfl exec_runb⟩

/-! ### KEEP -/

/-- KEEP leaves the state (41_decision_engine.md R158). -/
theorem exec_keep_of_permissive {s : State} (hs : s.params.strictStatus = false) (sw : Half) :
    exec (.keep sw) s = .next s :=
  State.permissive_of_false s _ hs

/-- DECIDE leaves the state on a word that is not listed. -/
theorem runDecide_of_not_listed {s : State} (hs : s.params.strictStatus = false)
    (hsw : listedStatusWords.contains s.statusWord = false) : runDecide s = .next s := by
  rw [runDecide_eq_exec, decodeStatus_of_not_listed _ hsw, exec_keep_of_permissive hs]

/-- On a word that is not listed a CYCLE is its exchange and its end. -/
theorem execCycle_of_not_listed {s : State} (hs : s.params.strictStatus = false)
    (hsw : listedStatusWords.contains s.beginCycle.statusWord = false) :
    execCycle s = .next s.beginCycle.endCycle := by
  have hdecide : runDecide s.beginCycle = .next s.beginCycle := runDecide_of_not_listed hs hsw
  rw [execCycle, hdecide, andThen_next]

/-- The drive state after a CYCLE that met a word outside the list. -/
theorem State.dstate_endCycle_of_not_listed {s : State}
    (hsw : listedStatusWords.contains s.statusWord = false) : s.endCycle.dstate = .unrecognized := by
  rw [State.dstate, State.endCycle_statusWord, dstateOf_eq_unrecognized_iff]
  exact hsw

/-- Settles O3: the default row of the decoder, KEEP itself, and the CYCLE around it, which is the exchange
and REASSERT alone. -/
theorem keepWritesNothing : Obligations.KeepWritesNothing := by
  refine ⟨decodeStatus_of_not_listed, fun sw _ hs => exec_keep_of_permissive hs sw,
    fun s hs hsw => ⟨runDecide_of_not_listed hs hsw, s.beginCycle.endCycle,
      execCycle_of_not_listed hs hsw, ?_⟩⟩
  have hdstate := State.dstate_endCycle_of_not_listed hsw
  simp [hdstate]

/-! ### The velocity outside operation enabled -/

/-- The encoder gives the velocity 0 for the four literals outside operation enabled, whatever the setpoint
is (41_decision_engine.md R161). -/
theorem commandOf_velocity_zero {sw : Half} (hsw : sw ∈ [(0x1208 : Half), 0x1250, 0x1231, 0x1233])
    (tv : Word) : ∃ cw, commandOf (dstateOf sw) tv = some (cw, 0) := by
  simp only [List.mem_cons, List.not_mem_nil, or_false] at hsw
  obtain rfl | rfl | rfl | rfl := hsw <;> exact ⟨_, rfl⟩

/-- A CYCLE that reports one of the four literals leaves the velocity 0. -/
theorem execCycle_velocity_zero {s t : State} (h : execCycle s = .next t)
    (hsw : t.statusWord ∈ [(0x1208 : Half), 0x1250, 0x1231, 0x1233]) : t.targetVelocity = 0 := by
  obtain ⟨cw, hcommand⟩ := commandOf_velocity_zero hsw s.tvSet
  have hpair := execCycle_encodes h
  rw [State.dstate, hcommand, Option.getD_some] at hpair
  exact congrArg Prod.snd hpair

/-- The drive runs at the setpoint 21845 and the next exchange times out; `IN` is still empty, so the status
word 0x0000 stands in it. -/
def cruisingUnrecognized : State :=
  ({ State.reset with phase := .run, tvSet := 21845,
                      pending := [⟨false, false, false, false, 0, 0⟩] } : State).command 0x000F 21845

theorem cruisingUnrecognized_not_listed :
    listedStatusWords.contains cruisingUnrecognized.beginCycle.statusWord = false := by
  decide

/-- Settles O7: the encoder's zero rows, and KEEP, which leaves the velocity 21845 of a running drive. -/
theorem zeroVelocityOutsideOperationEnabled : Obligations.ZeroVelocityOutsideOperationEnabled := by
  refine ⟨fun _ _ h hsw => execCycle_velocity_zero h hsw, cruisingUnrecognized, _,
    execCycle_of_not_listed rfl cruisingUnrecognized_not_listed,
    State.dstate_endCycle_of_not_listed cruisingUnrecognized_not_listed, ?_⟩
  simp [cruisingUnrecognized]

/-! ### The latch over a step -/

/-- The step from `s` to `t` fires the latch: a CYCLE that reports operation enabled to a drive that was not
enabled (41_decision_engine.md R162). -/
def LatchFires (s t : State) : Prop :=
  s.motorEnabled = false ∧ selectOp s.selector = .ok .cycle ∧ t.dstate = .operationEnabled

/-- Operation enabled is reported by two status words. -/
theorem State.dstate_eq_operationEnabled_iff (s : State) :
    s.dstate = .operationEnabled ↔ s.statusWord = 0x1237 ∨ s.statusWord = 0x1637 :=
  (dstateOf_eq_iff (by decide) s.statusWord).trans List.mem_pair

/-- A CYCLE that reports operation enabled to a drive that was not enabled enables it and takes the position
of its snapshot. -/
theorem execCycle_latch_of_first {s t : State} (h : execCycle s = .next t)
    (hoff : s.motorEnabled = false) (henabled : t.dstate = .operationEnabled) :
    t.motorEnabled = true ∧ t.startPos = t.actualPosition := by
  obtain ⟨hmotor, hevt, hstart⟩ := execCycle_latch h
  have hfired : t.enableEvt = true := by simp [hevt, hoff, henabled]
  rw [hmotor, hstart, hfired, henabled]
  simp

/-- Every other CYCLE leaves the latch. -/
theorem execCycle_keeps_latch {s t : State} (h : execCycle s = .next t)
    (hnot : ¬ (s.motorEnabled = false ∧ t.dstate = .operationEnabled)) :
    t.motorEnabled = s.motorEnabled ∧ t.startPos = s.startPos := by
  obtain ⟨hmotor, hevt, hstart⟩ := execCycle_latch h
  have hquiet : t.enableEvt = false := by simpa [hevt] using hnot
  rw [hstart, hquiet, hmotor]
  cases hm : s.motorEnabled with
  | true => simp
  | false => simpa [hm] using hnot

/-- Outside IDLE a step that runs no CYCLE leaves the latch. -/
theorem step_keeps_latch_of_not_cycle {s t : State} (hidle : s.phase ≠ .idle) (h : step s = .next t)
    (hcycle : selectOp s.selector ≠ .ok .cycle) :
    t.motorEnabled = s.motorEnabled ∧ t.startPos = s.startPos := by
  obtain ⟨_, _, rfl⟩ | ⟨i, u, hsel, hexec, rfl⟩ := step_cases h
  · exact ⟨rfl, rfl⟩
  obtain ⟨_, rfl⟩ | ⟨_, hphase, _⟩ | ⟨_, hphase, _⟩ | ⟨_, _, _, rfl⟩ | ⟨_, _, _, rfl⟩ | ⟨_, _, rfl⟩ :=
    selectOp_cases hsel
  · -- STOPREQ
    cases hexec
    exact ⟨rfl, rfl⟩
  · -- START
    exact absurd hphase hidle
  · -- SFAIL
    exact absurd hphase hidle
  · -- CYCLE
    exact absurd hsel hcycle
  · -- STOP
    cases hexec
    exact ⟨rfl, rfl⟩
  · -- DRAINC
    cases hexec
    simp

/-- A step that selects CYCLE is a CYCLE of the state with nothing driven yet, and the next input after
it. -/
theorem step_cycle {s t : State} (h : step s = .next t) (hsel : selectOp s.selector = .ok .cycle) :
    ∃ u, execCycle s.beginStep = .next u ∧ t = u.advance := by
  rw [step_of_select (step_permissive h) hsel, exec_cycle] at h
  obtain ⟨u, hexec, hadvance⟩ := andThen_eq_next h
  cases hadvance
  exact ⟨u, hexec, rfl⟩

/-- A step that fires the latch enables the drive and takes the position of its snapshot. -/
theorem step_of_latchFires {s t : State} (h : step s = .next t) (hfires : LatchFires s t) :
    t.motorEnabled = true ∧ t.startPos = t.actualPosition := by
  obtain ⟨hoff, hsel, henabled⟩ := hfires
  obtain ⟨u, hexec, rfl⟩ := step_cycle h hsel
  exact execCycle_latch_of_first (s := s.beginStep) (t := u) hexec hoff henabled

/-- Outside IDLE every other step leaves the latch. -/
theorem step_of_not_latchFires {s t : State} (hidle : s.phase ≠ .idle) (h : step s = .next t)
    (hnot : ¬ LatchFires s t) : t.motorEnabled = s.motorEnabled ∧ t.startPos = s.startPos := by
  by_cases hsel : selectOp s.selector = .ok .cycle
  · obtain ⟨u, hexec, rfl⟩ := step_cycle h hsel
    exact execCycle_keeps_latch (s := s.beginStep) (t := u) hexec
      fun ⟨hoff, henabled⟩ => hnot ⟨hoff, hsel, henabled⟩
  · exact step_keeps_latch_of_not_cycle hidle h hsel

/-- Settles O31: an enabled state never fires the latch again, and one that is not enabled changes exactly
in the step that fires it. -/
theorem latchFiresOnceAtTheFirstEnable : Obligations.LatchFiresOnceAtTheFirstEnable := by
  intro s t hidle h
  refine ⟨fun hon => ?enabled, fun hoff => ?disabled⟩
  case enabled =>
    have hnot : ¬ LatchFires s t := fun ⟨hoff, _⟩ => Bool.false_ne_true (hoff.symm.trans hon)
    obtain ⟨hmotor, hstart⟩ := step_of_not_latchFires hidle h hnot
    exact ⟨hmotor.trans hon, hstart⟩
  case disabled =>
    rw [← t.dstate_eq_operationEnabled_iff]
    by_cases hfires : LatchFires s t
    · obtain ⟨hmotor, hstart⟩ := step_of_latchFires h hfires
      obtain ⟨-, hselected⟩ := hfires
      exact ⟨iff_of_true hmotor hselected, fun _ => hstart,
        fun hfalse => Bool.noConfusion (hmotor.symm.trans hfalse)⟩
    · obtain ⟨hmotor, hstart⟩ := step_of_not_latchFires hidle h hfires
      have hstays : t.motorEnabled ≠ true := ne_true_of_eq_false (hmotor.trans hoff)
      exact ⟨iff_of_false hstays fun hselected => hfires ⟨hoff, hselected⟩,
        fun htrue => absurd htrue hstays, fun _ => hstart⟩

end Sys2Proof.Machine

/-! # The reporting logic of 42_reporting.md

The derived values DELTA (R181), MOVING (R183) and RPM_DISPLAY (R184); then the two strobes over a step,
ENABLE_EVT (R185) and REPORT (R186). -/

namespace Sys2Proof.Machine

/-! ### DELTA, MOVING and RPM_DISPLAY -/

/-- Settles O43: 33 bits hold the difference of any two signed 32-bit values, so the subtraction does not
wrap. -/
theorem deltaIsExact : Obligations.DeltaIsExact := by
  intro s
  have hposLo := s.actualPosition.le_toInt
  have hposHi := s.actualPosition.toInt_lt
  have hstartLo := s.startPos.le_toInt
  have hstartHi := s.startPos.toInt_lt
  rw [State.delta, BitVec.toInt_sub, BitVec.toInt_signExtend_of_le (by decide),
    BitVec.toInt_signExtend_of_le (by decide)]
  exact Int.bmod_eq_of_le (by omega) (by omega)

/-- MOVING compares the threshold with the distance of the 33-bit DELTA. -/
theorem State.moving_iff (s : State) : s.moving = true ↔
    s.motorEnabled = true ∧ (s.params.moveThreshold : Int) < |s.delta.toInt| := by
  rw [State.moving, Bool.and_eq_true, decide_eq_true_iff, Int.abs_eq_natAbs, Int.ofNat_lt]

/-- Settles O44: the comparison of `moving_iff` over the exact difference; the ports show it by
definition. -/
theorem movingIsStrictAndGated : Obligations.MovingIsStrictAndGated := by
  intro s
  rw [← deltaIsExact s]
  exact ⟨s.moving_iff, rfl, rfl, rfl, rfl, rfl⟩

/-- Settles O45: the quotient by definition, and the reference resolution by reducing 60 / 131072. -/
theorem rpmDisplayIsExact : Obligations.RpmDisplayIsExact := by
  intro s
  have hquotient : s.rpmDisplay =
      (s.actualVelocity.toInt : Rat) * 60 / (s.params.resolution : Rat) := rfl
  refine ⟨hquotient, fun hresolution => ?_⟩
  rw [hquotient, hresolution]
  push_cast
  ring

/-! ### The strobes after a step -/

/-- A step that runs no CYCLE leaves both strobes down (10_state.md R36). -/
theorem step_strobes_of_not_cycle {s t : State} (h : step s = .next t)
    (hcycle : selectOp s.selector ≠ .ok .cycle) : t.enableEvt = false ∧ t.report = false := by
  obtain ⟨_, _, rfl⟩ | ⟨i, u, hsel, hexec, rfl⟩ := step_cases h
  · exact ⟨rfl, rfl⟩
  cases i with
  | cycle => exact absurd hsel hcycle
  | start | sfail | stop | drainc | stopreq =>
    cases hexec
    exact ⟨rfl, rfl⟩
  | freset | shutdn | swon | enop | runa | runb | keep =>
    -- the step table selects no status-selected action
    exact absurd (selectOp_cases hsel) (by simp)

/-- ENABLE_EVT is raised by exactly the step that fires the latch. -/
theorem step_enableEvt_iff {s t : State} (h : step s = .next t) :
    t.enableEvt = true ↔ LatchFires s t := by
  by_cases hsel : selectOp s.selector = .ok .cycle
  · obtain ⟨u, hexec, rfl⟩ := step_cycle h hsel
    obtain ⟨-, hevt, -⟩ := execCycle_latch hexec
    have hcycle : u.enableEvt = true ↔ s.motorEnabled = false ∧ u.dstate = .operationEnabled := by
      simp [hevt]
    exact hcycle.trans ⟨fun ⟨hoff, henabled⟩ => ⟨hoff, hsel, henabled⟩,
      fun ⟨hoff, _, henabled⟩ => ⟨hoff, henabled⟩⟩
  · obtain ⟨hdown, -⟩ := step_strobes_of_not_cycle h hsel
    exact iff_of_false (ne_true_of_eq_false hdown) fun ⟨_, hcycle, _⟩ => hsel hcycle

/-- REPORT is raised by exactly the CYCLE whose new count is a multiple of the period. -/
theorem step_report_iff {s t : State} (h : step s = .next t) : t.report = true ↔
    selectOp s.selector = .ok .cycle ∧ t.cycleCount.toNat % s.params.reportPeriod = 0 := by
  by_cases hsel : selectOp s.selector = .ok .cycle
  · obtain ⟨u, hexec, rfl⟩ := step_cycle h hsel
    obtain ⟨-, hreport⟩ := execCycle_count hexec
    have hcycle : u.report = true ↔ u.cycleCount.toNat % s.params.reportPeriod = 0 := by
      rw [hreport, State.beginStep_params, decide_eq_true_iff]
    exact hcycle.trans (and_iff_right hsel).symm
  · obtain ⟨-, hdown⟩ := step_strobes_of_not_cycle h hsel
    exact iff_of_false (ne_true_of_eq_false hdown) fun ⟨hcycle, _⟩ => hsel hcycle

/-! ### REPORT -/

/-- The registers of the record after a CYCLE: the new count, the health value of the response, and the
parameters, which stay. -/
theorem step_cycle_reportRegisters {s t : State} (h : step s = .next t)
    (hsel : selectOp s.selector = .ok .cycle) :
    t.cycleCount = s.cycleCount + 1 ∧ t.wkc = s.input.resp.wkc ∧ t.params = s.params := by
  obtain ⟨u, hexec, rfl⟩ := step_cycle h hsel
  obtain ⟨hcount, -⟩ := execCycle_count hexec
  obtain ⟨-, -, hwkc⟩ := execCycle_exchange hexec
  have hparams := congrArg State.params (execCycle_frame hexec)
  exact ⟨hcount, hwkc, hparams⟩

/-- Settles O33: when the strobe is up, and the three registers that the record takes from the step; its
other fields are those of the new state. -/
theorem reportIsPeriodic : Obligations.ReportIsPeriodic := by
  intro s t h
  have hport : t.outputs.report = if t.report = true then some t.reportRecord else none := rfl
  rw [hport]
  by_cases hup : t.report = true
  · have hperiod := (step_report_iff h).mp hup
    obtain ⟨hcount, hwkc, hparams⟩ := step_cycle_reportRegisters h hperiod.1
    rw [if_pos hup, if_pos hperiod, State.reportRecord, hcount, hwkc, hparams]
  · rw [if_neg hup, if_neg (mt (step_report_iff h).mpr hup)]

/-! ### ENABLE_EVT -/

/-- How many times the latch can still fire: not at all once it has fired outside IDLE, else once. In IDLE
it counts as not fired, since a START clears it. -/
def State.latchesLeft (s : State) : Nat := if s.phase ≠ .idle ∧ s.motorEnabled = true then 0 else 1

theorem State.latchesLeft_le_one (s : State) : s.latchesLeft ≤ 1 := by
  unfold State.latchesLeft
  split <;> decide

theorem State.latchesLeft_of_enabled {s : State} (hidle : s.phase ≠ .idle)
    (hon : s.motorEnabled = true) : s.latchesLeft = 0 :=
  if_pos ⟨hidle, hon⟩

theorem State.latchesLeft_of_disabled {s : State} (hoff : s.motorEnabled = false) :
    s.latchesLeft = 1 :=
  if_neg fun ⟨_, hon⟩ => Bool.false_ne_true (hoff.symm.trans hon)

/-- No step goes back to IDLE. -/
theorem step_phase_ne_idle {s t : State} (h : step s = .next t) (hidle : s.phase ≠ .idle) :
    t.phase ≠ .idle := by
  obtain hstay | ⟨hphase, _⟩ | ⟨hphase, _⟩ | ⟨_, hdrain, _⟩ | ⟨_, hhalted, _⟩ := step_phase_cases h
  · rwa [hstay]
  · exact absurd hphase hidle
  · exact absurd hphase hidle
  · simp [hdrain]
  · simp [hhalted]

/-- CYCLE is selected in RUN only. -/
theorem phase_of_selectOp_cycle {x : Select} (h : selectOp x = .ok .cycle) : x.phase = .run := by
  obtain ⟨-, hrun, -⟩ : x.stopReq = false ∧ x.phase = .run ∧ x.runFlag = true := by
    simpa using selectOp_cases h
  exact hrun

/-- A step that raises ENABLE_EVT uses up the one firing that was left. -/
theorem latchesLeft_of_latchFires {s t : State} (h : step s = .next t) (hfires : LatchFires s t) :
    s.latchesLeft = 1 ∧ t.latchesLeft = 0 := by
  obtain ⟨hon, -⟩ := step_of_latchFires h hfires
  obtain ⟨hoff, hsel, -⟩ := hfires
  have hrun : s.phase = .run := phase_of_selectOp_cycle hsel
  have hidle : t.phase ≠ .idle := step_phase_ne_idle h (by simp [hrun])
  exact ⟨State.latchesLeft_of_disabled hoff, State.latchesLeft_of_enabled hidle hon⟩

/-- No other step restores a firing. -/
theorem latchesLeft_of_not_latchFires {s t : State} (h : step s = .next t)
    (hnot : ¬ LatchFires s t) : t.latchesLeft ≤ s.latchesLeft := by
  by_cases hfired : s.phase ≠ .idle ∧ s.motorEnabled = true
  · obtain ⟨hidle, hon⟩ := hfired
    obtain ⟨hmotor, -⟩ := step_of_not_latchFires hidle h hnot
    rw [State.latchesLeft_of_enabled (step_phase_ne_idle h hidle) (hmotor.trans hon)]
    exact Nat.zero_le _
  · have hone : s.latchesLeft = 1 := if_neg hfired
    exact hone ▸ t.latchesLeft_le_one

/-- Every raise of ENABLE_EVT is paid for by a firing that was left. -/
theorem enableEvt_add_latchesLeft_le {s t : State} (h : step s = .next t) :
    (if t.enableEvt = true then 1 else 0) + t.latchesLeft ≤ s.latchesLeft := by
  by_cases hfires : LatchFires s t
  · obtain ⟨hs, ht⟩ := latchesLeft_of_latchFires h hfires
    rw [if_pos ((step_enableEvt_iff h).mpr hfires), hs, ht]
  · rw [if_neg (mt (step_enableEvt_iff h).mp hfires), Nat.zero_add]
    exact latchesLeft_of_not_latchFires h hfires

/-- However long the run, ENABLE_EVT is raised at most as often as the latch can fire. -/
theorem enableCount_le_latchesLeft (n : Nat) (s : State) : enableCount n s ≤ s.latchesLeft := by
  induction n generalizing s with
  | zero => exact Nat.zero_le _
  | succ n ih =>
    rw [enableCount]
    cases h : step s with
    | next t =>
      calc (if t.enableEvt = true then 1 else 0) + enableCount n t
        _ ≤ (if t.enableEvt = true then 1 else 0) + t.latchesLeft := Nat.add_le_add_left (ih t) _
        _ ≤ s.latchesLeft := enableEvt_add_latchesLeft_le h
    | fault _ => exact Nat.zero_le _
    | refused _ => exact Nat.zero_le _

/-- What the port carries after a step, in terms of the firing of the latch. -/
theorem step_enableEvt_port {s t : State} (h : step s = .next t) [Decidable (LatchFires s t)] :
    t.outputs.enableEvt = if LatchFires s t then some t.actualPosition else none := by
  have hport : t.outputs.enableEvt = if t.enableEvt = true then some t.startPos else none := rfl
  rw [hport]
  by_cases hfires : LatchFires s t
  · obtain ⟨-, hstart⟩ := step_of_latchFires h hfires
    rw [if_pos hfires, if_pos ((step_enableEvt_iff h).mpr hfires), hstart]
  · rw [if_neg hfires, if_neg (mt (step_enableEvt_iff h).mp hfires)]

/-- Settles O32: the port follows the firing of the latch, and no run fires it twice. The bound needs no
invariant, since IDLE is the only phase from which a START can clear the latch. -/
theorem enableEventStrobesOnce : Obligations.EnableEventStrobesOnce := by
  classical
  refine ⟨fun s t h => (step_enableEvt_port h).trans (if_congr and_left_comm rfl rfl), fun n s _ => ?_⟩
  exact (enableCount_le_latchesLeft n s).trans s.latchesLeft_le_one

end Sys2Proof.Machine

/-! # The exceptions of 60_exceptions.md

What an operation of the block can answer at all (R205): a next state, or in a strict configuration its
refusal. -/

namespace Sys2Proof.Machine

/-- The outcomes that the block has under a configuration: a next state, and with `STRICT_STATUS = true`
also the refusal of the strict mode. A fault is not among them. -/
inductive CompletesUnlessStrict (p : Params) : Result → Prop where
  | next (t : State) : CompletesUnlessStrict p (.next t)
  | refused (hstrict : p.strictStatus = true) : CompletesUnlessStrict p (.refused .strictStatus)

namespace CompletesUnlessStrict

variable {p : Params} {r : Result}

theorem ne_fault (h : CompletesUnlessStrict p r) (e : Fault) : r ≠ .fault e := by
  cases h with
  | next t => exact nofun
  | refused hstrict => exact nofun

theorem exists_next (h : CompletesUnlessStrict p r) (hp : p.strictStatus = false) :
    ∃ t, r = .next t := by
  cases h with
  | next t => exact ⟨t, rfl⟩
  | refused hstrict => exact absurd (hp.symm.trans hstrict) Bool.false_ne_true

/-- Going on with an operation that always completes adds no outcome. -/
theorem andThen_next (h : CompletesUnlessStrict p r) (f : State → State) :
    CompletesUnlessStrict p (andThen r fun t => .next (f t)) := by
  cases h with
  | next t => exact .next (f t)
  | refused hstrict => exact .refused hstrict

end CompletesUnlessStrict

/-- KEEP is the one action with a refusal (41_decision_engine.md R164). -/
theorem exec_keep_completesUnlessStrict (sw : Half) (s : State) :
    CompletesUnlessStrict s.params (exec (.keep sw) s) := by
  cases hs : s.params.strictStatus with
  | false => exact exec_keep_of_permissive hs sw ▸ .next s
  | true =>
    rw [exec_keep, State.permissive_of_true s _ hs]
    exact .refused hs

/-- Every status word selects an action (60_exceptions.md R205): a listed one completes, and the rest is
KEEP. -/
theorem runDecide_completesUnlessStrict (s : State) :
    CompletesUnlessStrict s.params (runDecide s) := by
  by_cases hd : s.dstate = .unrecognized
  · have hsw := (dstateOf_eq_unrecognized_iff s.statusWord).mp hd
    rw [runDecide_eq_exec, decodeStatus_of_not_listed _ hsw]
    exact exec_keep_completesUnlessStrict s.statusWord s
  · obtain ⟨t, h⟩ := runDecide_completes s fun _ => hd
    exact h ▸ .next t

/-- A CYCLE adds no outcome to those of its decision. -/
theorem execCycle_completesUnlessStrict (s : State) :
    CompletesUnlessStrict s.params (execCycle s) :=
  (runDecide_completesUnlessStrict s.beginCycle).andThen_next State.endCycle

theorem exec_completesUnlessStrict (i : Instr) (s : State) :
    CompletesUnlessStrict s.params (exec i s) := by
  cases i with
  | keep sw => exact exec_keep_completesUnlessStrict sw s
  | cycle => exact execCycle_completesUnlessStrict s
  | freset | shutdn | swon | enop | runa | runb | start | sfail | stop | drainc | stopreq =>
    exact .next _

/-- A step is refused, waits, or executes the selected instruction, and each has these outcomes only. -/
theorem step_completesUnlessStrict (s : State) : CompletesUnlessStrict s.params (step s) := by
  cases hs : s.params.strictStatus with
  | true => exact step_strict hs ▸ .refused hs
  | false =>
    cases hsel : selectOp s.selector with
    | error e => exact step_of_none hs hsel ▸ .next _
    | ok i =>
      rw [step_of_select hs hsel]
      exact (exec_completesUnlessStrict i s.beginStep).andThen_next State.advance

/-- Settles O21: the outcomes of an instruction and of a step hold no fault, and without the strict mode
only a next state is left. A step that selects nothing completes as well, by waiting. -/
theorem nothingFaults : Obligations.NothingFaults :=
  ⟨fun i s => (exec_completesUnlessStrict i s).ne_fault,
    fun s => (step_completesUnlessStrict s).ne_fault,
    fun i s => (exec_completesUnlessStrict i s).exists_next,
    fun _ s hs _ => (step_completesUnlessStrict s).exists_next hs⟩

end Sys2Proof.Machine

/-! # The records of 30_encoding.md and their bytes

The seven fields of a record and its 16 bytes determine each other (R91 to R93), for both records by their one
layout; decode and encode of an instruction (R98, R99); the bits of the fields (R91, R92); and an observer's
access to the bytes (20_memory.md R61, R63). -/

namespace Sys2Proof

/-! ### One field of a record -/

/-- A field whose bytes stand at an offset of a packed record is read back from there. -/
theorem fieldOf_packRecord {o : ByteOrder} {bytes : List Byte} {off n : Nat} {v : BitVec (8 * n)}
    (hbytes : (bytes.drop off).take n = fieldBytes o n v) (hfit : off + n ≤ 16) :
    fieldOf o (packRecord bytes) off n = v := by
  refine assemble_eq n _ v fun i hi => ?_
  have hplace : o.place n i < n := o.place_lt n i hi
  calc byteOf (packRecord bytes) (off + o.place n i)
    _ = bytes.getD (off + o.place n i) 0 := byteOf_packRecord _ _ (by omega)
    _ = ((bytes.drop off).take n).getD (o.place n i) 0 := by simp [List.getD, hplace]
    _ = byteOf v (o.place n (o.place n i)) := by rw [hbytes, fieldBytes_getD o n v _ hplace]
    _ = byteOf v i := by rw [o.place_place n i hi]

/-- The bytes of a field of a record are bytes of that record. -/
theorem fieldBytes_fieldOf (o : ByteOrder) (r : Record) (off n : Nat) :
    fieldBytes o n (fieldOf o r off n) = (List.range n).map fun k => byteOf r (off + k) := by
  refine List.map_congr_left fun k hk => ?_
  have hk : k < n := List.mem_range.mp hk
  rw [fieldOf, byteOf_assemble n _ _ (o.place_lt n k hk), o.place_place n k hk]

/-! ### The layout that both records have -/

/-- The bytes of seven fields in the layout of 30_encoding.md R91 and R92. -/
def layoutBytes (o : ByteOrder) (word : Half) (position velocity : Word) (torque code : Half)
    (mode pad : Byte) : List Byte :=
  fieldBytes o 2 word ++ fieldBytes o 4 position ++ fieldBytes o 4 velocity ++ fieldBytes o 2 torque
    ++ fieldBytes o 2 code ++ fieldBytes o 1 mode ++ fieldBytes o 1 pad

theorem Snapshot.bytes_eq (x : Snapshot) : x.bytes =
    layoutBytes Config.byteOrder x.statusWord x.actualPosition x.actualVelocity x.actualTorque
      x.errorCode x.modeDisplay x.pad := rfl

theorem Command.bytes_eq (x : Command) : x.bytes =
    layoutBytes Config.byteOrder x.controlWord x.targetPosition x.targetVelocity x.targetTorque
      x.maxTorque x.operatingMode x.pad := rfl

/-- Each field is read back from the packed layout at its offset. -/
theorem fieldOf_layoutBytes (o : ByteOrder) (word : Half) (position velocity : Word)
    (torque code : Half) (mode pad : Byte) (r : Record)
    (hr : r = packRecord (layoutBytes o word position velocity torque code mode pad)) :
    fieldOf o r 0 2 = word ∧ fieldOf o r 2 4 = position ∧ fieldOf o r 6 4 = velocity ∧
    fieldOf o r 10 2 = torque ∧ fieldOf o r 12 2 = code ∧ fieldOf o r 14 1 = mode ∧
    fieldOf o r 15 1 = pad := by
  subst hr
  exact ⟨fieldOf_packRecord rfl (by decide), fieldOf_packRecord rfl (by decide),
    fieldOf_packRecord rfl (by decide), fieldOf_packRecord rfl (by decide),
    fieldOf_packRecord rfl (by decide), fieldOf_packRecord rfl (by decide),
    fieldOf_packRecord rfl (by decide)⟩

/-- The layout of the fields of a record is the record. -/
theorem packRecord_layoutBytes_fieldOf (o : ByteOrder) (r : Record) :
    packRecord (layoutBytes o (fieldOf o r 0 2) (fieldOf o r 2 4) (fieldOf o r 6 4)
      (fieldOf o r 10 2) (fieldOf o r 12 2) (fieldOf o r 14 1) (fieldOf o r 15 1)) = r := by
  have hbytes : layoutBytes o (fieldOf o r 0 2) (fieldOf o r 2 4) (fieldOf o r 6 4)
      (fieldOf o r 10 2) (fieldOf o r 12 2) (fieldOf o r 14 1) (fieldOf o r 15 1) = recordBytes r := by
    unfold layoutBytes
    rw [fieldBytes_fieldOf, fieldBytes_fieldOf, fieldBytes_fieldOf, fieldBytes_fieldOf,
      fieldBytes_fieldOf, fieldBytes_fieldOf, fieldBytes_fieldOf]
    rfl
  rw [hbytes, packRecord_recordBytes]

/-! ### The two records as their fields -/

@[simp] theorem decodeSnapshot_encodeSnapshot (x : Snapshot) :
    decodeSnapshot (encodeSnapshot x) = x := by
  obtain ⟨hword, hposition, hvelocity, htorque, hcode, hmode, hpad⟩ :=
    fieldOf_layoutBytes Config.byteOrder _ _ _ _ _ _ _ (encodeSnapshot x)
      (congrArg packRecord x.bytes_eq)
  rw [decodeSnapshot, hword, hposition, hvelocity, htorque, hcode, hmode, hpad]

@[simp] theorem encodeSnapshot_decodeSnapshot (r : Record) :
    encodeSnapshot (decodeSnapshot r) = r :=
  packRecord_layoutBytes_fieldOf Config.byteOrder r

theorem decodeCommand_encodeCommand (x : Command) : decodeCommand (encodeCommand x) = x := by
  obtain ⟨hword, hposition, hvelocity, htorque, hcode, hmode, hpad⟩ :=
    fieldOf_layoutBytes Config.byteOrder _ _ _ _ _ _ _ (encodeCommand x)
      (congrArg packRecord x.bytes_eq)
  rw [decodeCommand, hword, hposition, hvelocity, htorque, hcode, hmode, hpad]

/-- Settles O37: the layout is read back field by field, and the fields of a record pack to it. -/
theorem commandRecordRoundTrip : Obligations.CommandRecordRoundTrip :=
  ⟨decodeCommand_encodeCommand, packRecord_layoutBytes_fieldOf Config.byteOrder⟩

/-! ### Instructions and their codes -/

/-- The bytes of a record decode to the action of its status word. -/
theorem decodeBytes_recordBytes (r : Record) : decodeBytes (recordBytes r) = .ok (decodeRecord r) := by
  rw [decodeBytes, if_pos (recordBytes_length r), packRecord_recordBytes]

/-- Only an instruction with a status word has an Input Snapshot: its word among the other fields. -/
theorem encodeInstr_eq_some_iff {i : Instr} {rest : Snapshot} {r : Record} :
    encodeInstr i rest = some r ↔
      ∃ sw, encode i = .status sw ∧ r = encodeSnapshot { rest with statusWord := sw } := by
  unfold encodeInstr
  cases encode i with
  | status sw => simp [eq_comm]
  | select x => simp

/-- An instruction without a status word is a sequencer operation or the host's event, and these are
well-formed. -/
theorem wellFormed_of_encode_select {i : Instr} {x : Select} (hcode : encode i = .select x) :
    WellFormed i = true := by
  cases i with
  | keep sw => cases hcode
  | freset | shutdn | swon | enop | runa | runb | start | sfail | cycle | stop | drainc | stopreq => rfl

/-- Settles O36: a record is its seven fields, and a well-formed instruction is its code. -/
theorem decodeEncodeAgree : Obligations.DecodeEncodeAgree := by
  refine ⟨fun i rest r hi hr => ?instr, fun r => ⟨wellFormed_decodeStatus _, ?record⟩,
    fun i x hcode => ?select⟩
  case instr =>
    obtain ⟨sw, hcode, rfl⟩ := encodeInstr_eq_some_iff.mp hr
    refine ⟨?_, sw, hcode, decodeSnapshot_encodeSnapshot _⟩
    rw [decodeBytes_recordBytes, decodeRecord, decodeSnapshot_encodeSnapshot]
    exact congrArg _ ((decodeStatus_eq_iff hi sw).mpr hcode)
  case record =>
    exact encodeInstr_eq_some_iff.mpr
      ⟨_, encode_decodeStatus _, (encodeSnapshot_decodeSnapshot r).symm⟩
  case select => exact hcode ▸ decode_encode (wellFormed_of_encode_select hcode)

/-- A byte string that is the bytes of a snapshot decodes to the fields of that snapshot and to the action of
its status word. -/
theorem decode_of_snapshot_bytes {bytes : List Byte} {i : Instr} {x : Snapshot} (hbytes : bytes = x.bytes)
    (hi : decodeStatus x.statusWord = i) :
    decodeBytes bytes = .ok i ∧ decodeSnapshot (packRecord bytes) = x := by
  have hrecord : packRecord bytes = encodeSnapshot x := congrArg packRecord hbytes
  have hlength : bytes.length = 16 := by
    rw [hbytes, Snapshot.bytes_eq]
    simp [layoutBytes, fieldBytes_length]
  rw [decodeBytes, if_pos hlength, decodeRecord, hrecord, decodeSnapshot_encodeSnapshot, hi]
  exact ⟨rfl, rfl⟩

/-- Settles O42: each byte string is the bytes of the fields beside it. -/
theorem vectorRecordsDecode : Obligations.VectorRecordsDecode := by
  intro v hv
  simp only [List.mem_cons, List.not_mem_nil, or_false] at hv
  obtain rfl | rfl | rfl | rfl | rfl := hv <;>
    exact decode_of_snapshot_bytes (by decide) (by decide)

/-! ### Fields as bits -/

/-- Least significant byte first, an `n`-byte field is a run of `8 * n` bits of the record. -/
theorem fieldOf_little (r : Record) (off n : Nat) :
    fieldOf .little r off n = r.extractLsb' (8 * off) (8 * n) := by
  refine assemble_eq n _ _ fun i hi => BitVec.eq_of_getLsbD_eq fun k hk => ?_
  have hin : 8 * i + k < 8 * n := by omega
  have hbit : 8 * (off + i) + k = 8 * off + (8 * i + k) := by omega
  simp [byteOf, ByteOrder.place, hk, hin, hbit]

/-- Settles O38: both records have one layout, and each of its fields is a run of bits. -/
theorem fieldsLieAtTheirBits : Obligations.FieldsLieAtTheirBits := by
  intro r
  have hfield : ∀ off n, fieldOf Config.byteOrder r off n = r.extractLsb' (8 * off) (8 * n) :=
    fieldOf_little r
  constructor
  · simp only [decodeSnapshot, hfield]
  · simp only [decodeCommand, hfield]

end Sys2Proof

namespace Sys2Proof.Machine

/-! ### An observer's access -/

/-- What a `MemWrite` that completes did: it lies in the record, and it writes that record alone
(00_scope.md R13). -/
theorem State.memWrite_cases {s t : State} {sp : Space} {off n : Nat} {v : BitVec (8 * n)}
    (h : s.memWrite sp off n v = .ok t) :
    off + n ≤ 16 ∧ t.mem sp = (s.mem sp).write Config.byteOrder off n v ∧
    ∀ sp', sp' ≠ sp → t.mem sp' = s.mem sp' := by
  unfold State.memWrite at h
  split at h
  · next hrange =>
    refine ⟨by simpa [inRange] using hrange, ?_⟩
    cases sp with
    | out =>
      cases h
      refine ⟨rfl, fun sp' hne => ?_⟩
      cases sp' with
      | out => exact absurd rfl hne
      | inp => rfl
    | inp =>
      cases h
      refine ⟨rfl, fun sp' hne => ?_⟩
      cases sp' with
      | out => rfl
      | inp => exact absurd rfl hne
  · cases h

/-- A `MemWrite` that lies in the record completes. -/
theorem State.memWrite_completes (s : State) (sp : Space) {off n : Nat} (v : BitVec (8 * n))
    (hfit : off + n ≤ 16) : ∃ t, s.memWrite sp off n v = .ok t := by
  have hrange : inRange off n = true := decide_eq_true hfit
  unfold State.memWrite
  rw [if_pos hrange]
  cases sp with
  | out => exact ⟨_, rfl⟩
  | inp => exact ⟨_, rfl⟩

/-- A `MemRead` that lies in the record reads the field. -/
theorem State.memRead_of_le (s : State) (sp : Space) {off n : Nat} (hfit : off + n ≤ 16) :
    s.memRead sp off n = .ok ((s.mem sp).read Config.byteOrder off n) :=
  if_pos (decide_eq_true hfit)

/-- A byte of the written field, at the place that the byte order gives it. -/
theorem State.byte_memWrite_same {s t : State} {sp : Space} {off n : Nat} {v : BitVec (8 * n)}
    (h : s.memWrite sp off n v = .ok t) {i : Nat} (hi : i < n) :
    t.byte sp (off + Config.byteOrder.place n i) = byteOf v i := by
  obtain ⟨-, hmem, -⟩ := State.memWrite_cases h
  rw [State.byte, hmem, Memory.get_write_same _ _ _ _ _ _ hi]

/-- A byte of the other record, or outside the written field. -/
theorem State.byte_memWrite_other {s t : State} {sp sp' : Space} {off n k : Nat} {v : BitVec (8 * n)}
    (h : s.memWrite sp off n v = .ok t) (hk : sp' ≠ sp ∨ k < off ∨ off + n ≤ k) :
    t.byte sp' k = s.byte sp' k := by
  obtain ⟨-, hmem, hother⟩ := State.memWrite_cases h
  by_cases hsp : sp' = sp
  · subst hsp
    rw [State.byte, hmem, Memory.get_write_other _ _ _ _ _ _ (hk.resolve_left fun hne => hne rfl),
      State.byte]
  · rw [State.byte, hother sp' hsp, State.byte]

/-- Settles O39: the little-endian place of byte `i` is `i`. -/
theorem fieldsAreLittleEndian : Obligations.FieldsAreLittleEndian := by
  intro s t sp o
  refine ⟨fun v h => ⟨?_, ?_⟩, fun v h => ⟨?_, ?_, ?_, ?_⟩⟩
  · exact State.byte_memWrite_same h (i := 0) (by decide)
  · exact State.byte_memWrite_same h (i := 1) (by decide)
  · exact State.byte_memWrite_same h (i := 0) (by decide)
  · exact State.byte_memWrite_same h (i := 1) (by decide)
  · exact State.byte_memWrite_same h (i := 2) (by decide)
  · exact State.byte_memWrite_same h (i := 3) (by decide)

/-- A one-byte field is the byte. -/
theorem assemble_one (f : Nat → Byte) : assemble 1 f = f 0 := by
  refine assemble_eq 1 f (f 0) fun i hi => ?_
  obtain rfl : i = 0 := by omega
  exact BitVec.extractLsb'_eq_self.symm

/-- Offset 0 of `IN` holds the low byte of the status word. -/
theorem State.read_inRec_zero (s : State) :
    s.inRec.read Config.byteOrder 0 1 = byteOf s.statusWord 0 := by
  rw [State.statusWord, Memory.read, Memory.read, assemble_one,
    byteOf_assemble 2 _ 0 (by decide)]
  rfl

/-- Settles O40: an access in range by `memWrite_cases`, one out of range by the definition. -/
theorem memoryAccessLaws : Obligations.MemoryAccessLaws := by
  refine ⟨fun s sp off n v hfit => ?inside, fun s sp off n v hout => ?outside, fun s => ?status⟩
  case inside =>
    obtain ⟨t, h⟩ := s.memWrite_completes sp v hfit
    obtain ⟨-, hmem, -⟩ := State.memWrite_cases h
    refine ⟨t, h, ?_, fun sp' k hk => State.byte_memWrite_other h hk⟩
    rw [t.memRead_of_le sp hfit, hmem, Memory.read_write_same]
  case outside =>
    have hrange : ¬ inRange off n = true := by simpa [inRange] using hout
    exact ⟨if_neg hrange, if_neg hrange⟩
  case status =>
    exact (s.memRead_of_le .inp (by decide)).trans (congrArg Except.ok s.read_inRec_zero)

end Sys2Proof.Machine

/-! # The steps of 40_cyclic_exchange.md

A step as the instruction it selects (R120), and a CYCLE as the action that the fetched bytes decode to
(20_memory.md section 7); the steps that select nothing (R131); the priority of the checks (60_exceptions.md
section 3); and what one CYCLE leaves to the next (R125). -/

namespace Sys2Proof.Machine

/-! ### A step is the selected instruction -/

/-- Settles O17, by the lemma about a step that selects an instruction. -/
theorem stepExecutesTheSelected : Obligations.StepExecutesTheSelected :=
  fun _ _ hs hsel => step_of_select hs hsel

/-- Two operations that always complete, one after the other, are one. -/
theorem andThen_next_andThen_next {σ τ υ : Type} (r : Host.Outcome σ Fault Refusal) (f : σ → τ)
    (g : τ → υ) : andThen (andThen r fun t => .next (f t)) (fun t => .next (g t)) =
      andThen r fun t => .next (g (f t)) := by
  cases r with
  | next s => rfl
  | fault e => rfl
  | refused e => rfl

/-- The bytes of `IN` decode to the action of the status word in it. -/
theorem State.decodeBytes_inRec (s : State) :
    decodeBytes s.inRec.bytes = .ok (decodeStatus s.statusWord) := by
  have hword : (decodeSnapshot s.inRec.toRecord).statusWord = s.statusWord :=
    Memory.fieldOf_toRecord _ _ 0 2 (by decide)
  rw [Memory.bytes_eq, decodeBytes_recordBytes, decodeRecord, hword]

/-- Settles O18: DECIDE is `exec` of the decoded status word. That the decoded instruction is well-formed
holds of every record and is not used. -/
theorem stepRunsTheFetchedAction : Obligations.StepRunsTheFetchedAction := by
  intro s i hs hrun hflag hreq hbytes _
  rw [State.decodeBytes_inRec] at hbytes
  obtain rfl := Except.ok.inj hbytes
  rw [step_of_select hs (selectOp_cycle hreq hrun hflag), exec_cycle, execCycle, runDecide_eq_exec,
    andThen_next_andThen_next]

/-! ### Steps that select nothing -/

/-- The sequencer waits in IDLE without `start`, in HALTED and in FAILED (40_cyclic_exchange.md R131). -/
theorem selectOp_error_of_waits {x : Select} (hreq : x.stopReq = false)
    (hphase : x.phase = .halted ∨ x.phase = .failed ∨ (x.phase = .idle ∧ x.start = false)) :
    ∃ e, selectOp x = .error e := by
  obtain hhalted | hfailed | ⟨hidle, hstart⟩ := hphase
  · exact ⟨_, selectOp_halted hreq hhalted⟩
  · exact ⟨_, selectOp_failed hreq hfailed⟩
  · exact ⟨_, selectOp_waiting hreq hidle hstart⟩

/-- Settles O19: the step waits, and the exit code follows the phase, which stays. -/
theorem finalPhasesStay : Obligations.FinalPhasesStay := by
  intro s hs hreq hphase
  obtain ⟨e, hsel⟩ := selectOp_error_of_waits (x := s.selector) hreq hphase
  exact ⟨_, step_of_none hs hsel, rfl, (State.exitCode_eq_zero_iff _).mpr,
    (State.exitCode_eq_one_iff _).mpr, fun hidle => (State.exitCode_eq_none_iff _).mpr (.inl hidle)⟩

/-! ### The priority of the checks -/

/-- A step with STOP as its operation enters the drain without an exchange (40_cyclic_exchange.md R128). -/
theorem step_stop {s : State} (hs : s.params.strictStatus = false) (hreq : s.input.stopReq = false)
    (hrun : s.phase = .run) (hflag : s.runFlag = false) :
    step s = .next s.beginStep.clearStrobes.enterDrain.advance := by
  rw [step_of_select hs (selectOp_stop hreq hrun hflag), exec_stop, andThen_next]

/-- Settles O26: the operations that the two priorities select, SFAIL and STOP, and what they write. -/
theorem priorityOfChecks : Obligations.PriorityOfChecks := by
  refine ⟨fun s hs hreq hidle hstart hop => ?sfail, fun s hs hreq hrun hflag => ?stop⟩
  case sfail =>
    refine ⟨s.beginStep.raiseStartupFailure.advance, ?_, rfl, rfl⟩
    rw [step_of_select hs (selectOp_sfail hreq hidle hstart hop), exec_sfail, andThen_next]
  case stop => exact ⟨_, step_stop hs hreq hrun hflag, rfl, rfl, rfl, rfl, rfl⟩

/-- Settles O27: START leaves `RUN_FLAG`, so in RUN the row of STOP is selected. -/
theorem earlyStopRequestIsKept : Obligations.EarlyStopRequestIsKept := by
  intro s t _ hflag hsel h
  rw [step_of_select (step_permissive h) hsel, exec_start, andThen_next] at h
  cases h
  exact ⟨rfl, hflag, fun hreq => selectOp_stop hreq rfl hflag⟩

/-! ### One CYCLE after another -/

/-- Settles O24: a CYCLE drives the record `OUT` that it begins with. -/
theorem outputLatencyIsOneStep : Obligations.OutputLatencyIsOneStep := by
  intro s t u _ h hsel
  obtain ⟨v, hexec, rfl⟩ := step_cycle h hsel
  obtain ⟨hexOut, -, -⟩ := execCycle_exchange hexec
  exact ⟨t.outRec.toRecord, hexOut, t.decodeCommand_toRecord⟩

/-- The registers that a CYCLE does not write. -/
theorem execCycle_keeps {s t : State} (h : execCycle s = .next t) :
    t.phase = s.phase ∧ t.drainCount = s.drainCount ∧ t.tvSet = s.tvSet ∧ t.runFlag = s.runFlag ∧
    t.params = s.params := by
  rw [execCycle_frame h]
  exact ⟨rfl, rfl, rfl, rfl, rfl⟩

/-- A decision leaves the fields of `OUT` that nothing writes (30_encoding.md R102). -/
theorem runDecide_unused {s t : State} (h : runDecide s = .next t) :
    t.targetPosition = s.targetPosition ∧ t.targetTorque = s.targetTorque ∧ t.outPad = s.outPad := by
  obtain ⟨cw, tv, -, -, rfl⟩ | ⟨-, rfl⟩ | ⟨-, -, rfl⟩ := runDecide_cases h <;> simp

/-- A CYCLE leaves the fields of `OUT` that nothing writes. -/
theorem execCycle_unused {s t : State} (h : execCycle s = .next t) :
    t.targetPosition = s.targetPosition ∧ t.targetTorque = s.targetTorque ∧ t.outPad = s.outPad := by
  obtain ⟨u, hdecide, rfl⟩ := execCycle_cases h
  simpa using runDecide_unused hdecide

/-- A CYCLE that reports operation enabled leaves the drive enabled. -/
theorem execCycle_motorEnabled {s t : State} (h : execCycle s = .next t)
    (henabled : t.dstate = .operationEnabled) : t.motorEnabled = true := by
  obtain ⟨hmotor, -, -⟩ := execCycle_latch h
  simp [hmotor, henabled]

/-- A CYCLE that meets an unrecognized status answers no next state in a strict configuration. -/
theorem execCycle_dstate_of_strict {s t : State} (h : execCycle s = .next t)
    (hs : s.params.strictStatus = true) : t.dstate ≠ .unrecognized := by
  have hdstate : t.dstate = s.beginCycle.dstate := State.dstate_congr (execCycle_inRec h)
  obtain ⟨u, hdecide, -⟩ := execCycle_cases h
  rw [hdstate, State.dstate]
  obtain ⟨_, _, -, hpair, -⟩ | ⟨henabled, -⟩ | ⟨-, hfalse, -⟩ := runDecide_cases hdecide
  · intro hun
    rw [hun] at hpair
    cases hpair
  · simp [henabled]
  · exact absurd (hfalse.symm.trans hs) Bool.false_ne_true

/-- A CYCLE whose exchange times out decides on the snapshot that is there. -/
theorem execCycle_completes_of_stale {s : State} {w : Half} (hstale : s.input.resp = .stale w)
    (hs : s.params.strictStatus = true → s.dstate ≠ .unrecognized) : ∃ t, execCycle s = .next t := by
  have hinRec : s.beginCycle.inRec = s.inRec := by
    rw [State.beginCycle_inRec, hstale, State.exchange_inRec_stale]
  obtain ⟨u, hdecide⟩ := runDecide_completes s.beginCycle
    fun hstrict => State.dstate_congr hinRec ▸ hs hstrict
  exact ⟨u.endCycle, by rw [execCycle, hdecide, andThen_next]⟩

section Repeat

variable {r s t : State} {l : List Inputs} (hfirst : execCycle r = .next s)
  (h : execCycle { s with pending := l } = .next t) (hdstate : t.dstate = s.dstate)
include hfirst h hdstate

/-- A second CYCLE that meets the same status leaves the pair of the first in `OUT`. -/
theorem execCycle_pair_of_repeat :
    t.controlWord = s.controlWord ∧ t.targetVelocity = s.targetVelocity := by
  obtain ⟨-, -, htvSet, -⟩ := execCycle_keeps hfirst
  have hpair : (t.controlWord, t.targetVelocity) =
      (commandOf t.dstate s.tvSet).getD (s.controlWord, s.targetVelocity) :=
    execCycle_encodes (s := { s with pending := l }) h
  have hpairFirst := execCycle_encodes hfirst
  rw [hdstate, htvSet] at hpair
  cases hcommand : commandOf s.dstate r.tvSet with
  | none =>
    rw [hcommand] at hpair
    exact Prod.mk.inj hpair
  | some pair =>
    rw [hcommand] at hpair hpairFirst
    exact Prod.mk.inj (hpair.trans hpairFirst.symm)

/-- Such a CYCLE leaves the whole Output Command: the parameters stand in it since the first one. -/
theorem execCycle_outCommand_of_repeat : t.outCommand = s.outCommand := by
  obtain ⟨hcw, htv⟩ := execCycle_pair_of_repeat hfirst h hdstate
  obtain ⟨hposition, htorque, hpad⟩ := execCycle_unused h
  obtain ⟨hmax, hmode⟩ := execCycle_constants h
  obtain ⟨hmaxFirst, hmodeFirst⟩ := execCycle_constants hfirst
  obtain ⟨-, -, -, -, hparams⟩ := execCycle_keeps hfirst
  rw [← hparams] at hmaxFirst hmodeFirst
  simp only [State.outCommand, Command.mk.injEq]
  exact ⟨hcw, hposition, htv, htorque, hmax.trans hmaxFirst.symm, hmode.trans hmodeFirst.symm, hpad⟩

/-- Such a CYCLE fires no latch: where the status fires it, the first one has done so. -/
theorem execCycle_latch_of_repeat :
    t.motorEnabled = s.motorEnabled ∧ t.startPos = s.startPos ∧ t.enableEvt = false := by
  have hnot : ¬ (s.motorEnabled = false ∧ t.dstate = .operationEnabled) := by
    rintro ⟨hoff, henabled⟩
    have hon := execCycle_motorEnabled hfirst (hdstate.symm.trans henabled)
    exact Bool.false_ne_true (hoff.symm.trans hon)
  obtain ⟨hmotor, hstart⟩ := execCycle_keeps_latch h hnot
  obtain ⟨-, hevt, -⟩ := execCycle_latch h
  exact ⟨hmotor, hstart, hevt.trans (by simpa using hnot)⟩

end Repeat

/-- Settles O25: a timeout leaves the snapshot, so the second CYCLE meets the status of the first. -/
theorem staleCycleRepeatsTheCommand : Obligations.StaleCycleRepeatsTheCommand := by
  intro s t x w hfirst hstale
  have hinput : ({ t with pending := x :: t.pending } : State).input.resp = .stale w := hstale
  obtain ⟨-, -, -, -, hparams⟩ := execCycle_keeps hfirst
  have hstrict : t.params.strictStatus = true → t.dstate ≠ .unrecognized :=
    fun hs => execCycle_dstate_of_strict hfirst (hparams ▸ hs)
  obtain ⟨u, h⟩ := execCycle_completes_of_stale hinput hstrict
  obtain ⟨-, hinRec, hwkc⟩ := execCycle_exchange h
  rw [hinput, State.exchange_inRec_stale] at hinRec
  rw [hinput] at hwkc
  have hdstate : u.dstate = t.dstate := State.dstate_congr hinRec
  obtain ⟨hmotor, hstart, hevt⟩ := execCycle_latch_of_repeat hfirst h hdstate
  exact ⟨u, h, execCycle_outCommand_of_repeat hfirst h hdstate, State.snapshot_congr hinRec, hmotor,
    hstart, hevt, hwkc⟩

end Sys2Proof.Machine

/-! # Who writes what

The writers of the registers (10_state.md sections 2 to 5) and the owners of the parameters and of `RUN_FLAG`
(60_exceptions.md section 5). -/

namespace Sys2Proof.Machine

/-- KEEP, where it answers a next state, leaves the state. -/
theorem exec_keep_eq_next {sw : Half} {s t : State} (h : exec (.keep sw) s = .next t) : t = s := by
  obtain ⟨-, hnext⟩ := State.permissive_eq_next h
  cases hnext
  rfl

/-- No instruction writes a parameter. -/
theorem exec_params {i : Instr} {s t : State} (h : exec i s = .next t) : t.params = s.params := by
  cases i with
  | cycle =>
    obtain ⟨-, -, -, -, hparams⟩ := execCycle_keeps h
    exact hparams
  | keep sw => rw [exec_keep_eq_next h]
  | freset | shutdn | swon | enop | runa | runb | start | sfail | stop | drainc | stopreq =>
    cases h
    simp

/-- STOPREQ is selected only on the host's request. -/
theorem ne_stopreq_of_selectOp {x : Select} {i : Instr} (hreq : x.stopReq = false)
    (h : selectOp x = .ok i) : i ≠ .stopreq := by
  rintro rfl
  have hcases := selectOp_cases h
  simp [hreq] at hcases

/-- No step writes a parameter. -/
theorem step_params {s t : State} (h : step s = .next t) : t.params = s.params := by
  obtain ⟨_, -, rfl⟩ | ⟨i, u, -, hexec, rfl⟩ := step_cases h
  · rfl
  · exact exec_params (s := s.beginStep) (t := u) hexec

/-- Without the host's request no step writes `RUN_FLAG`. -/
theorem step_runFlag_of_no_request {s t : State} (h : step s = .next t)
    (hreq : s.input.stopReq = false) : t.runFlag = s.runFlag := by
  obtain ⟨_, -, rfl⟩ | ⟨i, u, hsel, hexec, rfl⟩ := step_cases h
  · rfl
  · exact exec_keeps_runFlag (s := s.beginStep) (t := u) hexec (ne_stopreq_of_selectOp hreq hsel)

/-- Settles O22: the parameters, the step that takes the request, and every other step. -/
theorem ownershipIsKept : Obligations.OwnershipIsKept := by
  intro s t h
  refine ⟨step_params h, fun hreq => ?request, step_runFlag_of_no_request h⟩
  case request =>
    rw [step_of_select (step_permissive h) (selectOp_stopreq hreq), exec_stopreq, andThen_next] at h
    cases h
    rfl

/-- The pairs of the encoder: one of the five control words, with the velocity 0, or the setpoint under
0x000F (30_encoding.md R96, R97). -/
theorem commandOf_pair {d : DState} {tvSet tv : Word} {cw : Half}
    (h : commandOf d tvSet = some (cw, tv)) :
    cw ∈ controlWords ∧ (tv = 0 ∨ tv = tvSet ∧ cw = 0x000F) := by
  cases d with
  | unrecognized => cases h
  | operationEnabled =>
    cases h
    exact ⟨by decide, .inr ⟨rfl, rfl⟩⟩
  | fault | switchOnDisabled | readyToSwitchOn | switchedOn =>
    cases h
    exact ⟨by decide, .inl rfl⟩

/-- The pair that a CYCLE leaves is the previous one or a pair of the encoder. -/
theorem execCycle_pair {s t : State} (h : execCycle s = .next t) :
    (t.controlWord = s.controlWord ∧ t.targetVelocity = s.targetVelocity) ∨
    (t.controlWord ∈ controlWords ∧
      (t.targetVelocity = 0 ∨ t.targetVelocity = s.tvSet ∧ t.controlWord = 0x000F)) := by
  have hencodes := execCycle_encodes h
  cases hpair : commandOf t.dstate s.tvSet with
  | none =>
    rw [hpair] at hencodes
    exact .inl (Prod.mk.inj hencodes)
  | some pair =>
    rw [hpair] at hencodes
    obtain ⟨hcw, htv⟩ := Prod.mk.inj hencodes
    rw [hcw, htv]
    exact .inr (commandOf_pair hpair)

/-- An enabled drive keeps its latch in every CYCLE. -/
theorem execCycle_latch_of_enabled {s t : State} (h : execCycle s = .next t)
    (hon : s.motorEnabled = true) : t.motorEnabled = true ∧ t.startPos = s.startPos := by
  obtain ⟨hmotor, hstart⟩ := execCycle_keeps_latch h (by simp [hon])
  exact ⟨hmotor.trans hon, hstart⟩

/-- Settles O23: CYCLE by its lemmas, KEEP writes nothing, and each other instruction by the field lemmas of
the operations it is made of. -/
theorem registersHaveTheirWriters : Obligations.RegistersHaveTheirWriters := by
  intro i s t h
  cases i with
  | cycle =>
    obtain ⟨hcount, -⟩ := execCycle_count h
    obtain ⟨-, hdrain, htvSet, hflag, -⟩ := execCycle_keeps h
    exact ⟨hcount, hdrain, htvSet, hflag, fun _ => execCycle_latch_of_enabled h, execCycle_unused h,
      (execCycle_pair h).imp And.left And.left⟩
  | keep sw =>
    rw [exec_keep_eq_next h]
    simp
  | freset | shutdn | swon | enop | runa | runb | start | sfail | stop | drainc | stopreq =>
    cases h
    simp +contextual [controlWords]

end Sys2Proof.Machine

/-! # What reaches a decision, and when it is refused

What of `IN` a decision reads (41_decision_engine.md section 4), when the fault reset falls (section 2), and the
strict mode (R164). -/

namespace Sys2Proof.Machine

/-! ### What a decision reads -/

/-- The state with another record `IN` and another health value. -/
def State.receive (s : State) (m : Memory) (w : Half) : State := { s with inRec := m, wkc := w }

/-- The two writes of an action do not touch what is received. -/
theorem State.command_receive (s : State) (m : Memory) (w cw : Half) (tv : Word) :
    (s.receive m w).command cw tv = (s.command cw tv).receive m w := rfl

/-- The latch reads the position only (41_decision_engine.md R159). -/
theorem State.latch_receive {s : State} {m : Memory} {w : Half}
    (hposition : (s.receive m w).actualPosition = s.actualPosition) :
    (s.receive m w).latch = s.latch.receive m w := by
  rw [State.latch, hposition]
  rfl

/-- KEEP reads nothing of the record. -/
theorem State.permissive_receive (s : State) (m : Memory) (w : Half) :
    (s.receive m w).permissive (.next (s.receive m w)) =
      andThen (s.permissive (.next s)) fun t => .next (t.receive m w) := by
  have hparams : (s.receive m w).params = s.params := rfl
  unfold State.permissive
  rw [hparams]
  split
  · rfl
  · rfl

/-- A status-selected action reads the position and nothing else of what is received. -/
theorem exec_receive {i : Instr} {sw : Half} (hi : encode i = .status sw) {s : State} {m : Memory}
    {w : Half} (hposition : (s.receive m w).actualPosition = s.actualPosition) :
    exec i (s.receive m w) = andThen (exec i s) fun t => .next (t.receive m w) := by
  have hrun : ((s.receive m w).command 0x000F s.tvSet).latch =
      (s.command 0x000F s.tvSet).latch.receive m w := by
    rw [State.command_receive]
    exact State.latch_receive (hposition.trans (s.command_actualPosition _ _).symm)
  cases i with
  | freset | shutdn | swon | enop => rfl
  | runa | runb => exact congrArg Host.Outcome.next hrun
  | keep => exact s.permissive_receive m w
  | start | sfail | cycle | stop | drainc | stopreq => cases hi

/-- Settles O6: the status word selects the action, and the action reads the position alone. -/
theorem decisionIgnoresOtherInputs : Obligations.DecisionIgnoresOtherInputs := by
  intro s s' hs hword hposition
  obtain ⟨m, w, rfl⟩ : ∃ m w, s' = s.receive m w := ⟨_, _, hs⟩
  have hdecide : runDecide (s.receive m w) =
      andThen (runDecide s) fun t => .next (t.receive m w) := by
    rw [runDecide_eq_exec, hword, exec_receive (encode_decodeStatus _) hposition,
      ← runDecide_eq_exec]
  refine ⟨fun t h => ?_, fun e h => ?_⟩
  · rw [hdecide, h]; rfl
  · rw [hdecide, h]; rfl

/-! ### The fault reset -/

/-- A CYCLE lets the fault reset fall on another listed status only (41_decision_engine.md section 2). -/
theorem execCycle_faultReset_falls {s t : State} (h : execCycle s = .next t)
    (hcw : s.controlWord = 0x0080) (hfalls : t.controlWord ≠ 0x0080) :
    t.statusWord ∈ [(0x1250 : Half), 0x1231, 0x1233, 0x1237, 0x1637] := by
  have hencodes : t.controlWord =
      ((commandOf t.dstate s.tvSet).getD (s.controlWord, s.targetVelocity)).1 :=
    congrArg Prod.fst (execCycle_encodes h)
  by_cases hlisted : listedStatusWords.contains t.statusWord = true
  · obtain hfault | hother := (listed_iff t.statusWord).mp hlisted
    · rw [State.dstate, hfault] at hencodes
      exact absurd hencodes hfalls
    · simpa using hother
  · have hdstate : t.dstate = .unrecognized :=
      (dstateOf_eq_unrecognized_iff _).mpr (Bool.eq_false_of_not_eq_true hlisted)
    rw [hdstate] at hencodes
    exact absurd (hencodes.trans hcw) hfalls

/-- Settles O8: FRESET holds the control word, the instructions without a command leave it, and CYCLE is
`execCycle_faultReset_falls`. -/
theorem faultResetIsHeld : Obligations.FaultResetIsHeld := by
  intro i s t h hcw hfalls
  cases i with
  | cycle => exact .inr ⟨rfl, execCycle_faultReset_falls h hcw hfalls⟩
  | shutdn | swon | enop | runa | runb | drainc => exact .inl (by decide)
  | keep => exact absurd (exec_keep_eq_next h ▸ hcw) hfalls
  | freset =>
    cases h
    exact absurd (s.command_controlWord 0x0080 0) hfalls
  | start | sfail | stop | stopreq =>
    cases h
    exact absurd hcw hfalls

/-! ### The strict mode -/

/-- The one refusal is that of the strict mode. -/
theorem CompletesUnlessStrict.of_refused {p : Params} {e : Refusal}
    (h : CompletesUnlessStrict p (.refused e)) : e = .strictStatus ∧ p.strictStatus = true := by
  cases h with
  | refused hstrict => exact ⟨rfl, hstrict⟩

/-- An instruction is refused in a strict configuration only, and for that reason. -/
theorem exec_refused {i : Instr} {s : State} {e : Refusal} (h : exec i s = .refused e) :
    e = .strictStatus ∧ s.params.strictStatus = true :=
  (h ▸ exec_completesUnlessStrict i s).of_refused

/-- In a strict configuration a CYCLE is refused exactly where its new status is not listed. -/
theorem execCycle_refused_iff {s : State} (hs : s.params.strictStatus = true) :
    execCycle s = .refused .strictStatus ↔
      listedStatusWords.contains s.beginCycle.statusWord = false := by
  rw [← dstateOf_eq_unrecognized_iff]
  constructor
  · intro h
    by_contra hlisted
    obtain ⟨u, hdecide⟩ := runDecide_completes s.beginCycle fun _ => hlisted
    rw [execCycle, hdecide] at h
    cases h
  · intro hunlisted
    have hsw := (dstateOf_eq_unrecognized_iff _).mp hunlisted
    have hkeep : exec (.keep s.beginCycle.statusWord) s.beginCycle = .refused .strictStatus :=
      State.permissive_of_true _ _ hs
    rw [execCycle, runDecide_eq_exec, decodeStatus_of_not_listed _ hsw, hkeep]
    rfl

/-- The instructions that a strict configuration refuses (assumption log entry 3). -/
theorem exec_refused_iff (i : Instr) (s : State) : exec i s = .refused .strictStatus ↔
    s.params.strictStatus = true ∧ ((∃ sw, i = .keep sw) ∨
      (i = .cycle ∧ listedStatusWords.contains s.beginCycle.statusWord = false)) := by
  constructor
  · intro h
    obtain ⟨-, hs⟩ := exec_refused h
    refine ⟨hs, ?_⟩
    cases i with
    | keep sw => exact .inl ⟨sw, rfl⟩
    | cycle => exact .inr ⟨rfl, (execCycle_refused_iff hs).mp h⟩
    | freset | shutdn | swon | enop | runa | runb | start | sfail | stop | drainc | stopreq => cases h
  · rintro ⟨hs, ⟨sw, rfl⟩ | ⟨rfl, hsw⟩⟩
    · exact State.permissive_of_true s _ hs
    · exact (execCycle_refused_iff hs).mpr hsw

/-- The startup conversion writes the setpoint only. -/
theorem configureRpm_strictStatus {p q : Params} {rpm : Rat} (h : configureRpm p rpm = .ok q) :
    q.strictStatus = p.strictStatus := by
  unfold configureRpm at h
  split at h
  · cases h
    rfl
  · cases h

/-- No item that is taken sets the strict mode. -/
theorem configureItem_strictStatus {p q : Params} {item : ConfigItem}
    (h : configureItem p item = .ok q) (hp : p.strictStatus = false) : q.strictStatus = false := by
  cases item with
  | strictStatus v =>
    cases v with
    | false =>
      cases h
      rfl
    | true => cases h
  | rpm r => exact (configureRpm_strictStatus h).trans hp
  | targetVel | modeCsv | maxTorque | resolution | reportPeriod | moveThreshold | wkcExpected =>
    cases h
    exact hp

/-- Nor do the items of a line that are all taken. -/
theorem configureItems_strictStatus {items : List ConfigItem} {p q : Params}
    (h : configureItems p items = .ok q) (hp : p.strictStatus = false) : q.strictStatus = false := by
  induction items generalizing p with
  | nil =>
    cases h
    exact hp
  | cons item rest ih =>
    unfold configureItems at h
    split at h
    · next p' hitem => exact ih h (configureItem_strictStatus hitem hp)
    · cases h

/-- In IDLE the parameters are written if the record is not strict (10_state.md R35, 41_decision_engine.md
R164). -/
theorem State.configure_of_idle {s : State} (hidle : s.phase = .idle) (p : Params) :
    s.configure p = ({ s with params := p } : State).permissive (.next { s with params := p }) :=
  if_pos hidle

/-- A write of the parameters that completes writes them and nothing else. -/
theorem State.configure_eq_next {s t : State} {p : Params} (h : s.configure p = .next t) :
    t = { s with params := p } := by
  unfold State.configure at h
  split at h
  · obtain ⟨-, hnext⟩ := State.permissive_eq_next h
    cases hnext
    rfl
  · cases h

/-- A line that is taken leaves the strict mode off. -/
theorem State.configureLine_strictStatus {s t : State} {items : List ConfigItem}
    (h : s.configureLine items = .next t) (hs : s.params.strictStatus = false) :
    t.params.strictStatus = false := by
  unfold State.configureLine at h
  split at h
  · next p hitems =>
    rw [State.configure_eq_next h]
    exact configureItems_strictStatus hitems hs
  · cases h

/-- Settles O4: the host's writes, every step, and the single instructions. -/
theorem strictStatusIsRefused : Obligations.StrictStatusIsRefused :=
  ⟨fun _ => rfl,
    fun _ p hidle hp => (State.configure_of_idle hidle p).trans (State.permissive_of_true _ _ hp),
    fun _ _ _ hs h => State.configureLine_strictStatus h hs, fun _ => step_strict,
    fun s _ h => (h ▸ step_completesUnlessStrict s).of_refused, exec_refused_iff,
    fun _ _ _ h => (exec_refused h).1⟩

/-- Settles O49: the write in IDLE stands with `STRICT_STATUS = false`, and any other phase is refused. -/
theorem parametersAreSetBeforeStart : Obligations.ParametersAreSetBeforeStart := fun _ p =>
  ⟨fun hidle hp => (State.configure_of_idle hidle p).trans (State.permissive_of_false _ _ hp),
    fun hphase => if_neg hphase, rfl⟩

end Sys2Proof.Machine

/-! # The conversions of 42_reporting.md

The startup conversion of a configured RPM (R188), and that it undoes RPM_DISPLAY (R189). -/

namespace Sys2Proof.Machine

/-- `k` is the integer nearest to `x`, and on a tie the one farther from zero (42_reporting.md R188). -/
def NearestAwayFromZero (x : Rat) (k : Int) : Prop :=
  |(k : Rat) - x| ≤ 1 / 2 ∧ (|(k : Rat) - x| = 1 / 2 → |x| < |(k : Rat)|)

/-- Both distances and sizes are the same on the other side of zero. -/
theorem NearestAwayFromZero.neg {x : Rat} {k : Int} (h : NearestAwayFromZero x k) :
    NearestAwayFromZero (-x) (-k) := by
  have hdistance : |((-k : Int) : Rat) - -x| = |(k : Rat) - x| := by
    rw [← abs_neg]
    push_cast
    ring_nf
  unfold NearestAwayFromZero
  rw [hdistance, Int.cast_neg, abs_neg, abs_neg]
  exact h

/-- On the nonnegative side the floor of `x + 1/2` is the nearest integer: it lies at most one half above
`x`, less than one half below, and a tie is above. -/
theorem nearestAwayFromZero_floor {x : Rat} (hx : 0 ≤ x) :
    NearestAwayFromZero x ⌊x + 1 / 2⌋ := by
  have hle : (⌊x + 1 / 2⌋ : Rat) ≤ x + 1 / 2 := Int.floor_le _
  have hlt : x + 1 / 2 < (⌊x + 1 / 2⌋ : Rat) + 1 := Int.lt_floor_add_one _
  refine ⟨abs_le.mpr ⟨by linarith, by linarith⟩, fun htie => ?_⟩
  have habove : x < (⌊x + 1 / 2⌋ : Rat) := by
    obtain h | h := (abs_eq (by norm_num)).mp htie <;> linarith
  rw [abs_of_nonneg hx]
  exact habove.trans_le (le_abs_self _)

/-- Rounding half away from zero gives the nearest integer, a tie going away from zero. -/
theorem nearestAwayFromZero_roundHalfAway (x : Rat) : NearestAwayFromZero x (roundHalfAway x) := by
  unfold roundHalfAway
  split
  · next hx => exact nearestAwayFromZero_floor hx
  · next hx =>
    have hneg := (nearestAwayFromZero_floor (x := -x) (by linarith)).neg
    rwa [neg_neg] at hneg

/-- An integer is rounded to itself. -/
theorem roundHalfAway_intCast (k : Int) : roundHalfAway k = k := by
  obtain ⟨hdistance, -⟩ := nearestAwayFromZero_roundHalfAway k
  have hlt : |roundHalfAway k - k| < 1 := by
    have : |(roundHalfAway k : Rat) - k| < 1 := lt_of_le_of_lt hdistance (by norm_num)
    exact_mod_cast this
  exact sub_eq_zero.mp (Int.abs_lt_one_iff.mp hlt)

/-- A value that 32 bits hold is configured as it is. -/
theorem configureRpm_of_inRange {p : Params} {rpm : Rat}
    (h : -(2 : Int) ^ 31 ≤ rpmToPulses p.resolution rpm ∧ rpmToPulses p.resolution rpm < 2 ^ 31) :
    configureRpm p rpm =
      .ok { p with targetVel := BitVec.ofInt 32 (rpmToPulses p.resolution rpm) } := by
  unfold configureRpm asBits32
  rw [if_pos h]

/-- Any other value is refused. -/
theorem configureRpm_of_outOfRange {p : Params} {rpm : Rat}
    (h : ¬ (-(2 : Int) ^ 31 ≤ rpmToPulses p.resolution rpm ∧
      rpmToPulses p.resolution rpm < 2 ^ 31)) :
    configureRpm p rpm = .error .targetVelOutOfRange := by
  unfold configureRpm asBits32
  rw [if_neg h]

/-- Settles O46: the rounding, and the range check. -/
theorem rpmConversionRoundsOrRefuses : Obligations.RpmConversionRoundsOrRefuses := by
  refine ⟨fun n rpm => nearestAwayFromZero_roundHalfAway _, fun p rpm =>
    ⟨fun h => ⟨_, configureRpm_of_inRange h, ?_⟩, configureRpm_of_outOfRange⟩⟩
  exact BitVec.toInt_ofInt_eq_self (by decide) h.1 h.2

/-- Settles O47: the resolution and the 60 cancel, and an integer is rounded to itself. -/
theorem rpmRoundTrip : Obligations.RpmRoundTrip := by
  intro n v hn
  have hne : (n : Rat) ≠ 0 := Nat.cast_ne_zero.mpr hn.ne'
  have hcancel : pulsesToRpm n v * (n : Rat) / 60 = (v.toInt : Rat) := by
    unfold pulsesToRpm
    field_simp
  rw [rpmToPulses, hcancel, roundHalfAway_intCast]

end Sys2Proof.Machine

/-! # The invariant of the machine

Reset has it, every operation keeps it in the phase in which it is selected, and so every step does (10_state.md
sections 2 to 5, 30_encoding.md section 4, 60_exceptions.md section 2). -/

namespace Sys2Proof.Machine

/-- Settles O29: both records are empty, so each field of `OUT` reads 0. -/
theorem resetHasTheInvariant : Obligations.ResetHasTheInvariant where
  outWf := rfl
  inWf := rfl
  control := by decide
  velocity := .inl (Memory.read_nil _ _ _)
  unused := ⟨Memory.read_nil _ _ _, Memory.read_nil _ _ _, Memory.read_nil _ _ _⟩
  constants := .inl rfl
  setpoint := rfl
  fresh := fun _ => ⟨rfl, rfl, rfl, rfl, rfl⟩
  latch := fun _ => rfl
  drainCount := rfl
  stopped := nofun
  drained := nofun
  strobes := by decide

/-! ### What the invariant says of a phase -/

namespace State.Inv

variable {s : State}

/-- Outside RUN both strobes are down. -/
theorem strobes_down (h : s.Inv) (hphase : s.phase ≠ .run) :
    s.enableEvt = false ∧ s.report = false := by
  obtain ⟨hraised, -⟩ := h.strobes
  constructor
  · by_contra hup
    exact hphase (hraised (.inl (Bool.eq_true_of_not_eq_false hup)))
  · by_contra hup
    exact hphase (hraised (.inr (Bool.eq_true_of_not_eq_false hup)))

/-- Before the loop the commanded velocity is 0, whatever the setpoint will be. -/
theorem velocity_zero_of_idle (h : s.Inv) (hidle : s.phase = .idle) : s.targetVelocity = 0 := by
  obtain hzero | ⟨hsetpoint, -⟩ := h.velocity
  · exact hzero
  · rw [hsetpoint, h.setpoint, hidle]
    rfl

theorem setpoint_of_entered (h : s.Inv) (hphase : beforeLoop s.phase = false) :
    s.tvSet = s.params.targetVel := by
  rw [h.setpoint, hphase]
  rfl

theorem drainCount_of_not_drained (h : s.Inv)
    (hphase : s.phase = .idle ∨ s.phase = .failed ∨ s.phase = .run) : s.drainCount = 0 := by
  have hcount := h.drainCount
  obtain hphase | hphase | hphase := hphase <;> simpa [hphase] using hcount

theorem drainCount_lt_of_drain (h : s.Inv) (hdrain : s.phase = .drain) :
    s.drainCount.toNat < 50 := by
  have hcount := h.drainCount
  rw [hdrain] at hcount
  exact hcount

/-! ### What surrounds an operation in a step -/

theorem beginStep (h : s.Inv) : s.beginStep.Inv :=
  ⟨h.outWf, h.inWf, h.control, h.velocity, h.unused, h.constants, h.setpoint, h.fresh, h.latch,
    h.drainCount, h.stopped, h.drained, by simp⟩

theorem advance (h : s.Inv) : s.advance.Inv :=
  ⟨h.outWf, h.inWf, h.control, h.velocity, h.unused, h.constants, h.setpoint, h.fresh, h.latch,
    h.drainCount, h.stopped, h.drained, h.strobes⟩

/-! ### The operations without an exchange -/

theorem requestStop (h : s.Inv) : s.requestStop.Inv :=
  ⟨h.outWf, h.inWf, h.control, h.velocity, h.unused, h.constants, h.setpoint, h.fresh, h.latch,
    h.drainCount, fun _ => rfl, h.drained, h.strobes⟩

theorem enterLoop (h : s.Inv) (hidle : s.phase = .idle) : s.enterLoop.Inv where
  outWf := h.outWf
  inWf := h.inWf
  control := h.control
  velocity := .inl (h.velocity_zero_of_idle hidle)
  unused := h.unused
  constants := h.constants
  setpoint := rfl
  fresh := nofun
  latch := fun _ => rfl
  drainCount := h.drainCount_of_not_drained (.inl hidle)
  stopped := by simp
  drained := by simp
  strobes := by
    obtain ⟨hevt, -⟩ := h.strobes_down (by simp [hidle])
    simp [hevt]

theorem raiseStartupFailure (h : s.Inv) (hidle : s.phase = .idle) : s.raiseStartupFailure.Inv where
  outWf := h.outWf
  inWf := h.inWf
  control := h.control
  velocity := h.velocity
  unused := h.unused
  constants := h.constants
  setpoint := h.setpoint.trans (by rw [hidle]; rfl)
  fresh := fun _ => h.fresh (by rw [hidle]; rfl)
  latch := h.latch
  drainCount := h.drainCount_of_not_drained (.inl hidle)
  stopped := by simp
  drained := by simp
  strobes := by
    obtain ⟨hevt, hreport⟩ := h.strobes_down (by simp [hidle])
    simp [hevt, hreport]

theorem enterDrain (h : s.Inv) (hrun : s.phase = .run) (hflag : s.runFlag = false) :
    s.clearStrobes.enterDrain.Inv where
  outWf := h.outWf
  inWf := h.inWf
  control := h.control
  velocity := h.velocity
  unused := h.unused
  constants := h.constants
  setpoint := h.setpoint_of_entered (by rw [hrun]; rfl)
  fresh := nofun
  latch := h.latch
  drainCount := (by decide : (0 : BitVec 6).toNat < Config.drainCycles)
  stopped := fun _ => hflag
  drained := by simp
  strobes := by simp

end State.Inv

/-! ### CYCLE -/

/-- A decision keeps the canonical form of `OUT`. -/
theorem runDecide_outWf {s t : State} (h : runDecide s = .next t) (hwf : s.outRec.wf = true) :
    t.outRec.wf = true := by
  obtain ⟨cw, tv, -, -, rfl⟩ | ⟨-, rfl⟩ | ⟨-, -, rfl⟩ := runDecide_cases h
  · exact s.command_wf cw tv hwf
  · rw [State.latch_outRec]
    exact s.command_wf 0x000F s.tvSet hwf
  · exact hwf

/-- A CYCLE keeps the canonical form of `OUT`. -/
theorem execCycle_outWf {s t : State} (h : execCycle s = .next t) (hwf : s.outRec.wf = true) :
    t.outRec.wf = true := by
  obtain ⟨u, hdecide, rfl⟩ := execCycle_cases h
  exact u.reassert_wf (runDecide_outWf hdecide hwf)

/-- Until the latch fires a CYCLE leaves `START_POS`. -/
theorem execCycle_startPos_of_disabled {s t : State} (h : execCycle s = .next t)
    (hoff : t.motorEnabled = false) : s.motorEnabled = false ∧ t.startPos = s.startPos := by
  have hnot : ¬ (s.motorEnabled = false ∧ t.dstate = .operationEnabled) :=
    fun ⟨_, henabled⟩ => Bool.false_ne_true (hoff.symm.trans (execCycle_motorEnabled h henabled))
  obtain ⟨hmotor, hstart⟩ := execCycle_keeps_latch h hnot
  exact ⟨hmotor.symm.trans hoff, hstart⟩

/-- A CYCLE that raises ENABLE_EVT leaves the drive enabled. -/
theorem execCycle_motorEnabled_of_enableEvt {s t : State} (h : execCycle s = .next t)
    (hevt : t.enableEvt = true) : t.motorEnabled = true := by
  obtain ⟨-, hevt', -⟩ := execCycle_latch h
  rw [hevt', Bool.and_eq_true, decide_eq_true_iff] at hevt
  obtain ⟨-, henabled⟩ := hevt
  exact execCycle_motorEnabled h henabled

theorem State.Inv.execCycle {s t : State} (hinv : s.Inv) (hrun : s.phase = .run)
    (h : execCycle s = .next t) : t.Inv := by
  obtain ⟨hphase, hdrain, htvSet, -, hparams⟩ := execCycle_keeps h
  obtain ⟨hposition, htorque, hpad⟩ := execCycle_unused h
  obtain ⟨hmax, hmode⟩ := execCycle_constants h
  obtain ⟨-, hinRec, -⟩ := execCycle_exchange h
  rw [hrun] at hphase
  have hentered : beforeLoop t.phase = false := by rw [hphase]; rfl
  exact
    { outWf := execCycle_outWf h hinv.outWf
      inWf := hinRec ▸ s.exchange_inRec_wf _ hinv.inWf
      control := by
        obtain ⟨hcw, -⟩ | ⟨hcw, -⟩ := execCycle_pair h
        · exact hcw ▸ hinv.control
        · exact hcw
      velocity := by
        rw [htvSet]
        obtain ⟨hcw, htv⟩ | ⟨-, hpair⟩ := execCycle_pair h
        · rw [hcw, htv]
          exact hinv.velocity
        · exact hpair
      unused := by
        rw [hposition, htorque, hpad]
        exact hinv.unused
      constants := .inr ⟨hparams ▸ hmax, hparams ▸ hmode⟩
      setpoint := by
        rw [hentered, htvSet, hparams]
        exact hinv.setpoint_of_entered (by rw [hrun]; rfl)
      fresh := fun hbefore => absurd (hentered.symm.trans hbefore) Bool.false_ne_true
      latch := fun hoff => by
        obtain ⟨hoff', hstart⟩ := execCycle_startPos_of_disabled h hoff
        exact hstart.trans (hinv.latch hoff')
      drainCount := by
        rw [hphase]
        exact hdrain.trans (hinv.drainCount_of_not_drained (.inr (.inr hrun)))
      stopped := by simp [hphase]
      drained := by simp [hphase]
      strobes := ⟨fun _ => hphase, execCycle_motorEnabled_of_enableEvt h⟩ }

/-! ### DRAINC -/

section Drainc

variable {s t : State} (h : exec .drainc s = .next t)
include h

/-- The registers that a DRAINC does not write. -/
theorem exec_drainc_keeps : t.cycleCount = s.cycleCount ∧ t.tvSet = s.tvSet ∧
    t.startPos = s.startPos ∧ t.motorEnabled = s.motorEnabled ∧ t.runFlag = s.runFlag ∧
    t.enableEvt = s.enableEvt ∧ t.report = s.report ∧ t.params = s.params := by
  rw [exec_drainc_frame h]
  exact ⟨rfl, rfl, rfl, rfl, rfl, rfl, rfl, rfl⟩

/-- A DRAINC leaves the fields of `OUT` that nothing writes. -/
theorem exec_drainc_unused : t.targetPosition = s.targetPosition ∧
    t.targetTorque = s.targetTorque ∧ t.outPad = s.outPad := by
  cases h
  simp

/-- A DRAINC keeps the canonical form of both records. -/
theorem exec_drainc_wf (hout : s.outRec.wf = true) (hin : s.inRec.wf = true) :
    t.outRec.wf = true ∧ t.inRec.wf = true := by
  obtain ⟨-, hinRec, -⟩ := exec_drainc_exchange h
  refine ⟨?_, hinRec ▸ s.exchange_inRec_wf _ hin⟩
  cases h
  exact s.zeroCommand.reassert_wf (s.command_wf 0x0000 0 hout)

/-- In the drain the count does not wrap, and a DRAINC halts the block when it reaches 50
(40_cyclic_exchange.md R130). -/
theorem exec_drainc_count_of_drain (hdrain : s.phase = .drain) (hcount : s.drainCount.toNat < 50) :
    t.drainCount.toNat = s.drainCount.toNat + 1 ∧
    t.phase = if s.drainCount.toNat + 1 = 50 then .halted else .drain := by
  obtain ⟨hnext, hphase⟩ := exec_drainc_count h
  have hsucc : t.drainCount.toNat = s.drainCount.toNat + 1 := by
    rw [hnext]
    bv_omega
  have h50 : t.drainCount = 50 ↔ s.drainCount.toNat + 1 = 50 := by
    rw [← hsucc]
    exact (BitVec.toNat_inj (y := 50)).symm
  rw [hphase, hdrain]
  exact ⟨hsucc, if_congr h50 rfl rfl⟩

end Drainc

theorem State.Inv.exec_drainc {s t : State} (hinv : s.Inv) (hdrain : s.phase = .drain)
    (h : exec .drainc s = .next t) : t.Inv := by
  obtain ⟨-, htvSet, hstart, hmotor, hflag, hevt, hreport, hparams⟩ := exec_drainc_keeps h
  obtain ⟨hposition, htorque, hpad⟩ := exec_drainc_unused h
  obtain ⟨hcw, htv, hmax, hmode⟩ := exec_drainc_command h
  obtain ⟨houtWf, hinWf⟩ := exec_drainc_wf h hinv.outWf hinv.inWf
  have hcount := hinv.drainCount_lt_of_drain hdrain
  obtain ⟨hsucc, hphase⟩ := exec_drainc_count_of_drain h hdrain hcount
  obtain ⟨hevt', hreport'⟩ := hinv.strobes_down (by simp [hdrain])
  have hentered : beforeLoop t.phase = false := by
    rw [hphase]
    split <;> rfl
  exact
    { outWf := houtWf
      inWf := hinWf
      control := by rw [hcw]; decide
      velocity := .inl htv
      unused := by
        rw [hposition, htorque, hpad]
        exact hinv.unused
      constants := .inr ⟨hparams ▸ hmax, hparams ▸ hmode⟩
      setpoint := by
        rw [hentered, htvSet, hparams]
        exact hinv.setpoint_of_entered (by rw [hdrain]; rfl)
      fresh := fun hbefore => absurd (hentered.symm.trans hbefore) Bool.false_ne_true
      latch := fun hoff => hstart.trans (hinv.latch (hmotor.symm.trans hoff))
      drainCount := by
        by_cases h50 : s.drainCount.toNat + 1 = 50
        · rw [hphase, if_pos h50]
          exact hsucc.trans h50
        · rw [hphase, if_neg h50]
          exact hsucc.trans_lt (Nat.lt_of_le_of_ne hcount h50)
      stopped := fun _ => hflag.trans (hinv.stopped (.inl hdrain))
      drained := fun _ => ⟨hcw, htv⟩
      strobes := by simp [hevt, hreport, hevt', hreport'] }

/-! ### Every step -/

/-- Settles O28: a step that selects nothing changes nothing that the invariant speaks of, and each operation
keeps it in the phase in which it is selected. -/
theorem stepKeepsTheInvariant : Obligations.StepKeepsTheInvariant := by
  intro s t hinv h
  obtain ⟨_, -, rfl⟩ | ⟨i, u, hsel, hexec, rfl⟩ := step_cases h
  · exact hinv.beginStep.advance
  refine State.Inv.advance ?_
  obtain ⟨-, rfl⟩ | ⟨-, hidle, -, -, rfl⟩ | ⟨-, hidle, -, -, rfl⟩ | ⟨-, hrun, -, rfl⟩ |
    ⟨-, hrun, hflag, rfl⟩ | ⟨-, hdrain, rfl⟩ := selectOp_cases hsel
  · -- STOPREQ
    cases hexec
    exact hinv.beginStep.requestStop
  · -- START
    cases hexec
    exact hinv.beginStep.enterLoop hidle
  · -- SFAIL
    cases hexec
    exact hinv.beginStep.raiseStartupFailure hidle
  · -- CYCLE
    exact hinv.beginStep.execCycle hrun hexec
  · -- STOP
    cases hexec
    exact hinv.beginStep.enterDrain hrun hflag
  · -- DRAINC
    exact hinv.beginStep.exec_drainc hdrain hexec

end Sys2Proof.Machine

/-! # Runs after a stop request

How many exchanges a stopped run can still make, and how it ends (40_cyclic_exchange.md section 4). -/

namespace Sys2Proof.Machine

/-! ### The bound on the exchanges -/

/-- How many exchanges a stopped run can still make: the 50 of the drain until it is entered, and what is
left of them in it. -/
def State.exchangesLeft (s : State) : Nat :=
  match s.phase with
  | .idle | .run => 50
  | .drain => 50 - s.drainCount.toNat
  | .halted | .failed => 0

theorem State.exchangesLeft_le (s : State) : s.exchangesLeft ≤ 50 := by
  unfold State.exchangesLeft
  cases s.phase with
  | drain => exact Nat.sub_le _ _
  | idle | run => exact le_rfl
  | halted | failed => exact Nat.zero_le _

theorem State.exchangesLeft_of_run {s : State} (hrun : s.phase = .run) : s.exchangesLeft = 50 := by
  rw [State.exchangesLeft, hrun]

theorem State.exchangesLeft_of_drain {s : State} (hdrain : s.phase = .drain) :
    s.exchangesLeft = 50 - s.drainCount.toNat := by
  rw [State.exchangesLeft, hdrain]

theorem State.exchangesLeft_of_halted {s : State} (hhalted : s.phase = .halted) :
    s.exchangesLeft = 0 := by
  rw [State.exchangesLeft, hhalted]

/-- A DRAINC uses one exchange up. -/
theorem exec_drainc_exchangesLeft {s t : State} (hdrain : s.phase = .drain)
    (hcount : s.drainCount.toNat < 50) (h : exec .drainc s = .next t) :
    1 + t.exchangesLeft = s.exchangesLeft := by
  obtain ⟨hsucc, hphase⟩ := exec_drainc_count_of_drain h hdrain hcount
  rw [State.exchangesLeft_of_drain hdrain]
  by_cases h50 : s.drainCount.toNat + 1 = 50
  · rw [if_pos h50] at hphase
    rw [State.exchangesLeft_of_halted hphase]
    omega
  · rw [if_neg h50] at hphase
    rw [State.exchangesLeft_of_drain hphase, hsucc]
    omega

/-- Once the stop request is pending, a step pays for its exchange with one of those that are left: no CYCLE
is selected, and no other operation but DRAINC makes one. -/
theorem step_exchange_add_exchangesLeft_le {s t : State} (hinv : s.Inv) (hflag : s.runFlag = false)
    (hidle : s.phase ≠ .idle) (h : step s = .next t) :
    (if t.exOut.isSome then 1 else 0) + t.exchangesLeft ≤ s.exchangesLeft := by
  obtain ⟨_, -, rfl⟩ | ⟨i, u, hsel, hexec, rfl⟩ := step_cases h
  · exact (Nat.zero_add _).le
  obtain ⟨-, rfl⟩ | ⟨-, hphase, -⟩ | ⟨-, hphase, -⟩ | ⟨-, -, htrue, -⟩ | ⟨-, hrun, -, rfl⟩ |
    ⟨-, hdrain, rfl⟩ := selectOp_cases hsel
  · -- STOPREQ
    cases hexec
    exact (Nat.zero_add _).le
  · -- START
    exact absurd hphase hidle
  · -- SFAIL
    exact absurd hphase hidle
  · -- CYCLE
    exact absurd (hflag.symm.trans htrue) Bool.false_ne_true
  · -- STOP
    cases hexec
    rw [State.exchangesLeft_of_run hrun]
    exact (Nat.zero_add _).trans_le (State.exchangesLeft_le _)
  · -- DRAINC
    have hleft : 1 + u.exchangesLeft = s.exchangesLeft :=
      exec_drainc_exchangesLeft (s := s.beginStep) hdrain (hinv.drainCount_lt_of_drain hdrain) hexec
    obtain ⟨hexOut, -⟩ := exec_drainc_exchange hexec
    rw [State.advance_exOut, hexOut]
    exact hleft.le

/-- No step sets `RUN_FLAG` back. -/
theorem step_runFlag_of_stopped {s t : State} (h : step s = .next t) (hflag : s.runFlag = false) :
    t.runFlag = false := by
  obtain ⟨_, -, rfl⟩ | ⟨i, u, -, hexec, rfl⟩ := step_cases h
  · exact hflag
  · exact exec_runFlag_of_stopped (s := s.beginStep) (t := u) hexec hflag

/-- However long the run, it makes no more exchanges than are left. -/
theorem exchangeCount_le_exchangesLeft (n : Nat) (s : State) (hinv : s.Inv)
    (hflag : s.runFlag = false) (hidle : s.phase ≠ .idle) : exchangeCount n s ≤ s.exchangesLeft := by
  induction n generalizing s with
  | zero => exact Nat.zero_le _
  | succ n ih =>
    rw [exchangeCount]
    cases h : step s with
    | next t =>
      have hrest := ih t (stepKeepsTheInvariant s t hinv h) (step_runFlag_of_stopped h hflag)
        (step_phase_ne_idle h hidle)
      calc (if t.exOut.isSome then 1 else 0) + exchangeCount n t
        _ ≤ (if t.exOut.isSome then 1 else 0) + t.exchangesLeft := Nat.add_le_add_left hrest _
        _ ≤ s.exchangesLeft := step_exchange_add_exchangesLeft_le hinv hflag hidle h
    | fault _ => exact Nat.zero_le _
    | refused _ => exact Nat.zero_le _

/-- Settles O34: at most 50 exchanges are left in any state. -/
theorem atMostFiftyExchangesAfterAStop : Obligations.AtMostFiftyExchangesAfterAStop :=
  fun n s hinv hflag hidle =>
    (exchangeCount_le_exchangesLeft n s hinv hflag hidle).trans s.exchangesLeft_le

/-! ### The inputs of the coming steps -/

theorem State.inputAt_zero (s : State) : s.inputAt 0 = s.input := by
  unfold State.inputAt State.input
  cases s.pending with
  | nil => rfl
  | cons x l => rfl

/-- What stands on the ports one step later. -/
theorem State.inputAt_advance (s : State) (k : Nat) : s.advance.inputAt k = s.inputAt (k + 1) := by
  unfold State.inputAt State.advance
  cases s.pending with
  | nil => simp [Nat.add_assoc, Nat.add_comm 1 k]
  | cons x l => simp

/-- The inputs are what is fixed of them and the free draws after it. -/
theorem State.inputAt_congr {s t : State} (hpending : t.pending = s.pending)
    (hdraws : t.draws = s.draws) (k : Nat) : t.inputAt k = s.inputAt k := by
  rw [State.inputAt, hpending, hdraws, State.inputAt]

/-- A step that enters the drain leaves what the coming steps see. -/
theorem State.inputAt_enterDrain (s : State) (k : Nat) :
    s.beginStep.clearStrobes.enterDrain.inputAt k = s.inputAt k :=
  State.inputAt_congr rfl rfl k

/-! ### One step of a run -/

theorem run_succ {n : Nat} {s t : State} (h : step s = .next t) :
    core.run (n + 1) s = core.run n t := by
  have hstep : core.step s = .next t := h
  simp only [Host.Core.run, hstep]

theorem exchangeCount_succ {n : Nat} {s t : State} (h : step s = .next t) :
    exchangeCount (n + 1) s = (if t.exOut.isSome then 1 else 0) + exchangeCount n t := by
  rw [exchangeCount, h]

/-- A drain step without a request: one exchange, the zero command, and one more on the count. -/
structure DrainStep (s t : State) : Prop where
  step : step s = .next t
  params : t.params = s.params
  zero : t.isZeroCommand
  cycleCount : t.cycleCount = s.cycleCount
  motorEnabled : t.motorEnabled = s.motorEnabled
  exOut : t.exOut.isSome = true
  count : t.drainCount.toNat = s.drainCount.toNat + 1
  phase : t.phase = if s.drainCount.toNat + 1 = 50 then .halted else .drain
  inputs : ∀ k, t.inputAt k = s.inputAt (k + 1)

theorem exists_drainStep {s : State} (hs : s.params.strictStatus = false)
    (hreq : s.input.stopReq = false) (hdrain : s.phase = .drain)
    (hcount : s.drainCount.toNat < 50) : ∃ t, DrainStep s t := by
  obtain ⟨u, h⟩ : ∃ u, exec .drainc s.beginStep = .next u := ⟨_, exec_drainc _⟩
  have hframe := exec_drainc_frame h
  obtain ⟨hcycles, -, -, hmotor, -, -, -, hparams⟩ := exec_drainc_keeps h
  obtain ⟨hcw, htv, -⟩ := exec_drainc_command h
  obtain ⟨hexOut, -⟩ := exec_drainc_exchange h
  obtain ⟨hsucc, hphase⟩ := exec_drainc_count_of_drain h hdrain hcount
  have hstep : step s = .next u.advance := by
    rw [step_of_select hs (selectOp_drainc hreq hdrain), h, andThen_next]
  refine ⟨u.advance, hstep, hparams, ⟨hcw, htv⟩, hcycles, hmotor, ?_, hsucc, hphase, fun k => ?_⟩
  · rw [State.advance_exOut, hexOut]
    rfl
  · rw [State.inputAt_advance]
    exact State.inputAt_congr (s := s) (by rw [hframe]; rfl) (by rw [hframe]; rfl) (k + 1)

/-! ### The end of a stopped run -/

/-- The run of `n` steps from `s` ends the drain: halted with the zero command, and an exchange in every
step. -/
def DrainsIn (n : Nat) (s : State) : Prop :=
  ∃ t, core.run n s = .next t ∧ t.phase = .halted ∧ t.isZeroCommand ∧
    t.cycleCount = s.cycleCount ∧ t.motorEnabled = s.motorEnabled ∧ exchangeCount n s = n

/-- The last drain step halts the block. -/
theorem drainsIn_one {s t : State} (h : DrainStep s t) (hlast : s.drainCount.toNat + 1 = 50) :
    DrainsIn 1 s := by
  refine ⟨t, run_succ h.step, ?_, h.zero, h.cycleCount, h.motorEnabled, ?_⟩
  · rw [h.phase, if_pos hlast]
  · rw [exchangeCount_succ h.step, h.exOut]
    rfl

/-- Every drain step before goes on to the next. -/
theorem drainsIn_succ {n : Nat} {s t : State} (h : DrainStep s t) (hrest : DrainsIn n t) :
    DrainsIn (n + 1) s := by
  obtain ⟨u, hrun, hphase, hzero, hcycles, hmotor, hexchanges⟩ := hrest
  refine ⟨u, (run_succ h.step).trans hrun, hphase, hzero, hcycles.trans h.cycleCount,
    hmotor.trans h.motorEnabled, ?_⟩
  rw [exchangeCount_succ h.step, h.exOut, hexchanges, if_pos rfl, Nat.add_comm]

/-- From any count the drain takes as many steps as are missing to 50. -/
theorem drainsIn_of_drain (n : Nat) {s : State} (hs : s.params.strictStatus = false)
    (hdrain : s.phase = .drain) (hcount : s.drainCount.toNat + (n + 1) = 50)
    (hreq : ∀ k, k < n + 1 → (s.inputAt k).stopReq = false) : DrainsIn (n + 1) s := by
  induction n generalizing s with
  | zero =>
    obtain ⟨t, h⟩ := exists_drainStep hs (s.inputAt_zero ▸ hreq 0 (by omega)) hdrain (by omega)
    exact drainsIn_one h hcount
  | succ n ih =>
    obtain ⟨t, h⟩ := exists_drainStep hs (s.inputAt_zero ▸ hreq 0 (by omega)) hdrain (by omega)
    have hphase : t.phase = .drain := by rw [h.phase, if_neg (by omega)]
    have hcount' : t.drainCount.toNat + (n + 1) = 50 := by
      rw [h.count]
      omega
    exact drainsIn_succ h (ih (h.params ▸ hs) hphase hcount'
      fun k hk => h.inputs k ▸ hreq (k + 1) (by omega))

/-- Settles O35: STOP, which makes no exchange, and then the drain from the count 0. -/
theorem stopHaltsAfterFiftyOneSteps : Obligations.StopHaltsAfterFiftyOneSteps := by
  intro s hs hrun hflag hreq
  have hstop := step_stop hs (s.inputAt_zero ▸ hreq 0 (by decide)) hrun hflag
  have hinputs : ∀ k, k < 50 →
      (s.beginStep.clearStrobes.enterDrain.advance.inputAt k).stopReq = false := by
    intro k hk
    rw [State.inputAt_advance, State.inputAt_enterDrain]
    exact hreq (k + 1) (by omega)
  obtain ⟨t, hdrains, hphase, hzero, hcycles, hmotor, hexchanges⟩ :=
    drainsIn_of_drain 49 (s := s.beginStep.clearStrobes.enterDrain.advance) hs rfl rfl hinputs
  refine ⟨t, (run_succ hstop).trans hdrains, hphase, (State.exitCode_eq_zero_iff t).mpr hphase, hzero,
    hcycles, hmotor, ?_⟩
  rw [exchangeCount_succ hstop, hexchanges]
  rfl

end Sys2Proof.Machine
